-- ==== Sys2Proof/Word.lean ====
section
/-! DEFINITION. The widths the manual counts in, and elapsed time on the run clock. -/

namespace Sys2Proof

/-- One byte of the register window (R200: "Every access reads or writes one byte"). -/
abbrev Byte := BitVec 8

/-- A 16-bit count: scan number (R9), arrival number (R139), sequence number (R178). -/
abbrev Half := BitVec 16

/-- A run-clock value in ms, which wraps (R89). -/
abbrev Clock := BitVec 32

/-- The time from `start` to `now`, counted modulo 2^32 (R89). -/
def elapsed (now start : Clock) : Nat := (now - start).toNat

/-- `n` on the eight data lines. -/
def byte (n : Nat) : Byte := BitVec.ofNat 8 n

/-- A flag as a bit. -/
def bit (b : Bool) : Nat := if b then 1 else 0

/-- `n` placed at bit position `lo` of a byte layout. -/
def field (lo n : Nat) : Nat := n * 2 ^ lo

/-- The `len` bits of `v` from bit position `lo` upward. -/
def bits (v : Byte) (lo len : Nat) : Nat := v.toNat / 2 ^ lo % 2 ^ len

end Sys2Proof
end

