-- ==== Sys2Proof/Syntax.lean ====
section
/-! DEFINITION. The commands of the part: one constructor per row of spec/opcode_table.json.
The table gives its rows no operands; those here are what the rows' rules say a command carries. -/

namespace Sys2Proof

/-- Alarm points, groups, voices and patterns, numbered as the manual numbers them (00 "Numbering"). -/
abbrev PointId := Fin 32
abbrev GroupId := Fin 8
abbrev VoiceId := Fin 4
abbrev PatternId := Fin 32

/-- The four panel buttons, in the order of the bits of PLOCK and PBTN (chapter 11). -/
inductive Button where
  | ack | sil | rst | tst
  deriving DecidableEq, Repr

/-- The levels of the field pins at one tick: the part samples all of them at ticks (R8, R66, R98, R169). -/
structure Pins where
  /-- IN0 to IN31; bit p is the level of point p's input, 1 high (R10). -/
  inputs : BitVec 32
  /-- ACK, SIL, RST, TST at bits 0 to 3; 0 low, that is pressed (R66). -/
  buttons : BitVec 4
  /-- The level of the CSYNC line: true high, false pulled low (R98). -/
  csync : Bool
  /-- VDRV as a level from 0 to 15 (R169). -/
  vdrv : BitVec 4
  deriving DecidableEq, Repr

/-- Which byte of a two-byte register is written (R40, R88). -/
inductive WhichByte where
  | low | high
  deriving DecidableEq, Repr

/-- A bus access to DRDAT (R122). -/
inductive Access where
  | read
  | write (value : Byte)
  deriving DecidableEq, Repr

/-- The partner bytes of the register sets with hold bytes (R200 and the rule named at each). -/
inductive Partner where
  | rfs1                    -- R197
  | rclk1 | rclk2 | rclk3   -- R90
  | cycnt                   -- R103
  | pst3                    -- R49
  | scnnumHigh              -- R9
  | lout1 | lout2 | lout3   -- R167
  | gst4                    -- R64
  | xstat1                  -- R129
  | vst1 | vst2             -- R159
  | sglev                   -- R175
  | evnxt1                  -- R186
  deriving DecidableEq, Repr

/-- The commands: every row of spec/opcode_table.json, in the table's order. -/
inductive Instr where
  /-- The supply rises (R196). -/
  | powerOnReset
  /-- Release of the reset input (R196). -/
  | hardwareReset
  /-- One tick of the run clock, with the field pins' levels at it (R89).
  `late`: a store access due at this tick that does not complete its entry is taken after the tick's
  other events and not before them (R115 leaves the order open; log 7). -/
  | tick (pins : Pins) (late : Bool)
  /-- The store initialisation completes (R116, R117, R196). -/
  | initDone
  | start       -- R190
  | stop        -- R194
  | hold        -- R193
  | resume      -- R193
  | softreset   -- R195
  /-- A scan outside the settle-end scan (R10). `order`: the points whose events are taken first, in this
  order; the others follow in ascending number (R24 leaves the order open; log 6). -/
  | scan (order : List PointId)
  | settleEnd   -- R192
  | rearm       -- R61
  | shelve      -- R42
  | unshelve    -- R47
  /-- The finite shelf of a point runs out (R46). -/
  | shelfExpiry (point : PointId)
  /-- The sample of the button pins (R66). `order`: the buttons taken first, in this order (R70 leaves the
  order open; log 6). -/
  | buttonSample (order : List Button)
  | ack         -- R76
  | silence     -- R77
  | reset       -- R80
  | testStart   -- R82
  | testEnd     -- R85
  | hornTestBegin   -- R84
  | testTimeout     -- R86
  | eighthEnd       -- R93
  | lineRelease     -- R97
  | pulseRecognised -- R98
  | miss            -- R101
  | sroleWrite (value : Byte)                  -- R96
  | tdivWrite (half : WhichByte) (value : Byte)    -- R88
  | pselWrite (value : Byte)                   -- R1
  /-- A write of PCF0 to PCF8 (R3). -/
  | pcfWrite (index : Fin 9) (value : Byte)
  | shdurWrite (half : WhichByte) (value : Byte)   -- R40
  | commitHeader   -- R128
  | commitSteps    -- R128
  | commitBoth     -- R128
  | fetch          -- R128
  | commitCompletion   -- R131
  | fetchCompletion    -- R132
  | drdatAccess (access : Access)   -- R122
  | rbdatRead                       -- R133
  | chimeStart                      -- R156
  /-- A write of CHCTL carrying STOP, with or without START (R157). -/
  | chimeStop (withStart : Bool)
  | vcntWrite (value : Byte)        -- R143
  | stepBoundary (voice : VoiceId)    -- R150
  | envelopeDecay (voice : VoiceId)   -- R149
  | supplySample    -- R169
  | ev0Read         -- R182
  | ev9Read         -- R183
  | flush           -- R184
  /-- A write of ICS0 (`low`) or ICS1 (`high`) (R198). -/
  | icsWrite (half : WhichByte) (value : Byte)
  | scnnumLowRead         -- R9
  | rclk0Read             -- R90
  | cstatRead             -- R103
  | shelfSecondsLowRead   -- R49
  | gst3Read              -- R64
  | xstat0Read            -- R129
  | vst0Read              -- R159
  | lout0Read             -- R167
  | sgstRead              -- R175
  | evnxt0Read            -- R186
  | rfs0Read              -- R197
  /-- A write of a byte to an address of the register window (R200). -/
  | registerWrite (address : BitVec 7) (value : Byte)
  | resetInputAsserted    -- R196
  | holdPartnerByteRead (partner : Partner)   -- R200
  deriving DecidableEq, Repr

end Sys2Proof
end

