-- ==== Sys2Proof/Config.lean ====
section
/-! DEFINITION. What the part fixes once for all: lengths, limits and the tables of chapters 6 and 9.
The spec leaves no result of a command undefined, so there is no free value here. -/

namespace Sys2Proof.Config

/-- Records the Event Queue holds at most (R178). -/
def eventCapacity : Nat := 64

/-- Entries the transfer queue holds at most (R129). -/
def transferCapacity : Nat := 4

/-- Bytes of the draft area and of the readback image (R121, R133). -/
abbrev imageBytes : Nat := 68

/-- Headers written by an initialisation, at ticks 1 to 32 (R116). -/
def initHeaderTicks : Nat := 32

/-- The tick at which a full initialisation writes its last step (R116). -/
def initFullTicks : Nat := 288

/-- ms between samples of the button pins (R66). -/
def buttonPeriod : Nat := 10

/-- Disagreeing samples that change a filtered level (R66). -/
def buttonCount : Nat := 3

/-- ms between samples of VDRV (R169). -/
def supplyPeriod : Nat := 100

/-- Samples in a row that complete a transition of the supply state (R171). -/
def supplyCount : Nat := 3

/-- ms a TST press is held before the horn test begins (R84). -/
def hornDelay : Nat := 3000

/-- ms a test lasts at most (R86). -/
def testLimit : Nat := 60000

/-- ms CSYNC is pulled low for an ordinary pulse (R97). -/
def pulseWidth : Nat := 2

/-- ms CSYNC is pulled low for a marker (R97). -/
def markerWidth : Nat := 6

/-- The longest low time read as an ordinary pulse (R98). -/
def pulseLongest : Nat := 3

/-- The longest low time read as a marker (R98). -/
def markerLongest : Nat := 20

/-- Misses in a row that lose the lock (R101). -/
def missLimit : Nat := 3

/-- The tone table, in Hz (R111). -/
def toneFrequency (tone : Fin 16) : Nat :=
  [400, 440, 500, 560, 630, 700, 800, 880, 1000, 1120, 1250, 1400, 1600, 1800, 2000, 2400].getD tone 0

/-- The voice duty table: the share of a tone period, in %, for which a sounding output is high (R112). -/
def voiceShare (level : Nat) : Nat := [50, 40, 32, 25, 18, 12, 8, 4].getD (level - 1) 0

/-- The lamp duty table: the share of a drive period, in %, for which a lit lamp is on (R166). -/
def lampShare (level : Nat) : Nat := [100, 80, 64, 50, 40, 30, 20, 12].getD (level - 1) 0

end Sys2Proof.Config
end

