-- ==== Sys2Proof/Machine/State.lean ====
section
/-! DEFINITION. The state of the part, block by block, and its values after power-on reset.
Plain data throughout. What the manual derives from other state (the request field, the first-out set,
lamp outputs, IRQ) is computed where it is used and stored once (log 20). -/

namespace Sys2Proof.Machine

/-- The faults a step can end in: none. The spec names no condition that stops the part, and gives every
command an effect in every state (INVENTORY, Faults). Safe: no command is stopped. -/
inductive Fault where
  deriving DecidableEq, Repr

/-- The model's refusals. -/
inductive Refusal where
  /-- Raised by `exec` alone, for a command that has no meaning yet; safe: nothing follows from it.
  No arm raises it now. -/
  | notModelled (mnemonic : String)
  deriving DecidableEq, Repr

/-! ### Control Unit (chapter 11) -/

/-- The controller states (R188). -/
inductive CtlState where
  | init | setup | arming | active | hold
  deriving DecidableEq, Repr

/-- The reasons of a CONTROLLER record (R188). -/
inductive CtlReason where
  | initDone | start | settleEnd | stop | hold | resume | softreset
  deriving DecidableEq, Repr

/-- The reason codes of a refusal (R197). -/
inductive Reason where
  | none | wrongState | locked | badValue | queueFull | badCount
  | badRange | badRepeat | badStep | badId | disabledPoint
  deriving DecidableEq, Repr

structure Control where
  state : CtlState
  /-- The settle timer: the run-clock time of the START, or cleared (R190). -/
  settleStart : Option Clock
  /-- SETL, units of 100 ms (R191). -/
  setl : Byte
  /-- OPTS (R191). -/
  quietStart : Bool
  /-- The refusal record: address and reason (R197). -/
  refAddr : BitVec 7
  refReason : Reason
  deriving DecidableEq, Repr

/-! ### Timebase (chapter 5) -/

/-- The sync roles (R96). -/
inductive Role where
  | solo | leader | follower
  deriving DecidableEq, Repr

inductive Sync where
  | free | locked
  deriving DecidableEq, Repr

/-- The low period of CSYNC a follower is sampling (R98). -/
inductive LowRun where
  /-- The line was high at the last sample. -/
  | none
  /-- A low period in progress, with the low samples so far. -/
  | counting (lowTime : Nat)
  /-- A low period in progress that is discarded when it ends: it was under way at a write of SROLE. -/
  | discarded
  /-- A low period ended at this tick's sample and is to be recognised. -/
  | ended (lowTime : Nat)
  deriving DecidableEq, Repr

structure Timebase where
  /-- TDIV and its staging byte (R88). -/
  tdiv : Half
  tdivStaging : Byte
  /-- The divisor of the tick in progress (R88). -/
  divisorInUse : Half
  /-- The run clock (R89). -/
  clock : Clock
  /-- ELEN (R91). -/
  elen : Byte
  /-- The length of the eighth in progress (R91). -/
  eighthLen : Byte
  /-- The time into the eighth, in ms (R93). -/
  intoEighth : Nat
  /-- The eighth index (R93). -/
  eighth : BitVec 3
  /-- The cycle counter (R94). -/
  cycle : BitVec 6
  role : Role
  sync : Sync
  /-- The miss count (R101). -/
  misses : Nat
  /-- The line drive: released, or pulled low until a tick (R97). -/
  lineLowUntil : Option Clock
  lowRun : LowRun
  deriving DecidableEq, Repr

/-! ### Input Scanner (chapter 1) -/

/-- The scan periods (R7). -/
inductive ScanPeriod where
  | ms1 | ms2 | ms5 | ms10
  deriving DecidableEq, Repr

structure Scanner where
  /-- SCNPER (R7). -/
  period : ScanPeriod
  /-- Ticks counted in the present scan period; none while scanning is stopped (R8). -/
  count : Option Nat
  /-- The scan number (R9). -/
  number : Half
  deriving DecidableEq, Repr

/-- PSEL, the staging bytes of the point window (R1, R4) and SHDUR (R40). -/
structure PointWindow where
  psel : PointId
  onStaging : Byte
  offStaging : Byte
  reminderStaging : Byte
  shdur : Half
  shdurStaging : Byte
  deriving DecidableEq, Repr

/-! ### Point Table (chapters 1 and 2) -/

inductive AlarmLevel where
  | low | high
  deriving DecidableEq, Repr

/-- The classes (R22). -/
inductive AlarmClass where
  | n | l | m | r
  deriving DecidableEq, Repr

/-- A reminder other than NONE: period exponent and offset (R2). -/
structure Reminder where
  exponent : BitVec 3
  offset : BitVec 6
  deriving DecidableEq, Repr

/-- The configuration part of a point record (R2). -/
structure PointConfig where
  enabled : Bool
  alarmLevel : AlarmLevel
  /-- The debounce value minus 1, as PCF0 holds it. -/
  debounceLess1 : BitVec 3
  cls : AlarmClass
  group : Option GroupId
  priority : Fin 4
  onDelay : BitVec 12
  offDelay : BitVec 12
  alarmPattern : Option PatternId
  ringbackPattern : Option PatternId
  reminder : Option Reminder
  deriving DecidableEq, Repr

inductive DelayKind where
  | onDelay | offDelay
  deriving DecidableEq, Repr

/-- The delay timer (R12); in HOLD it is frozen with its elapsed time (R17). -/
inductive Timer where
  | idle
  | running (kind : DelayKind) (start : Clock)
  | frozen (kind : DelayKind) (elapsed : Clock)
  deriving DecidableEq, Repr

/-- The qualification fields of a point's run part (R11 to R14). -/
structure Qual where
  /-- The field state: ABNORMAL. -/
  abnormal : Bool
  agreement : Nat
  /-- The condition: ACTIVE. -/
  active : Bool
  timer : Timer
  deriving DecidableEq, Repr

/-- The sequence states (R21). -/
inductive SeqState where
  | normal | alarmUnack | alarmAck | returnUnack
  deriving DecidableEq, Repr

/-- The first-out marks (R21). -/
inductive Mark where
  | none | first | subsequent
  deriving DecidableEq, Repr

/-- Shelving (R21, R45). -/
inductive Shelf where
  | none
  | indefinite
  | finite (seconds ms : Nat)
  deriving DecidableEq, Repr

/-- The sequence fields of a point's run part (R21); the request field is in the request list. -/
structure Seq where
  state : SeqState
  mark : Mark
  shelf : Shelf
  silenced : Bool
  toneDone : Bool
  alarmTime : Clock
  deriving DecidableEq, Repr

structure Point where
  cfg : PointConfig
  qual : Qual
  seq : Seq
  deriving DecidableEq, Repr

/-! ### Group Table (chapter 3) -/

/-- A group record (R50); the first-out set and the subsequent count are the marks of its members. -/
structure Group where
  captured : Bool
  captureScan : Half
  deriving DecidableEq, Repr

/-! ### Panel Interface (chapter 4) -/

/-- The filter of one button (R66). -/
structure ButtonFilter where
  pressed : Bool
  changes : Nat
  deriving DecidableEq, Repr

/-- The scope of an action, as ASCP holds it (R71). -/
inductive Scope where
  | all
  | group (g : GroupId)
  | point (p : PointId)
  deriving DecidableEq, Repr

inductive TestState where
  | idle | lampTest | lampAndHornTest
  deriving DecidableEq, Repr

/-- The test record (R81). -/
structure TestRecord where
  state : TestState
  start : Clock
  panelParty : Bool
  press : Clock
  hostParty : Bool
  deriving DecidableEq, Repr

structure Panel where
  /-- The filters of ACK, SIL, RST and TST (R66). -/
  filters : Vector ButtonFilter 4
  /-- The button sample of this tick is still to be taken (R66). -/
  sampleDue : Bool
  /-- PLOCK (R68). -/
  plock : BitVec 4
  /-- ASCP (R71). -/
  ascp : Scope
  /-- AGRD, units of 10 ms (R75). -/
  agrd : Byte
  test : TestRecord
  deriving DecidableEq, Repr

/-! ### Pattern Store (chapter 6) -/

/-- The repeat field (R106, R108). -/
inductive Repeat where
  | once | loop
  | count (n : Nat)
  deriving DecidableEq, Repr

/-- The decay intervals (R106). -/
inductive Interval where
  | ms50 | ms100 | ms200 | ms400
  deriving DecidableEq, Repr

/-- The envelope field (R106). -/
inductive Envelope where
  | off
  | decay (interval : Interval)
  deriving DecidableEq, Repr

/-- The fields of a valid header (R106). -/
structure ValidHeader where
  rep : Repeat
  envelope : Envelope
  count : Nat
  first : Nat
  deriving DecidableEq, Repr

/-- A header: the one empty header, or a valid one (R106). -/
abbrev Header := Option ValidHeader

/-- A step (R110); a tone of none is REST. -/
structure Step where
  tone : Option (Fin 16)
  level : Nat
  duration : Nat
  deriving DecidableEq, Repr

/-- The kinds of initialisation (R116, R117). -/
inductive InitKind where
  | headers | full
  deriving DecidableEq, Repr

structure Store where
  headers : Vector Header 32
  steps : Vector Step 256
  /-- The steps-initialised mark (R116). -/
  stepsInitialised : Bool
  /-- The initialisation in progress. -/
  init : Option InitKind
  deriving DecidableEq, Repr

/-! ### Transfer Engine (chapter 7) -/

/-- The draft area and the readback image (R121, R133). -/
abbrev Image := Vector Byte Config.imageBytes

/-- A transfer request with what its entry holds (R128), or has read so far (R132). -/
inductive Transfer where
  | commitHeader (header : Header)
  | commitSteps (first : Nat) (steps : List Step)
  | commitBoth (header : Header) (first : Nat) (steps : List Step)
  /-- What a fetch has read: nothing yet, or the header and the steps so far. -/
  | fetch (read : Option (Header × List Step))
  deriving DecidableEq, Repr

/-- A transfer entry (R128); progress none is WAITING, some n is APPLYING with n accesses made. -/
structure Entry where
  id : PatternId
  transfer : Transfer
  progress : Option Nat
  deriving DecidableEq, Repr

structure TransferEngine where
  draft : Image
  /-- DRADR (R122). -/
  dradr : Fin 68
  /-- XID (R125). -/
  xid : Byte
  /-- The transfer queue, oldest first (R129). -/
  queue : List Entry
  /-- The store access of this tick is still to be made (R130). -/
  accessDue : Bool
  /-- The readback image (R133). -/
  image : Image
  /-- RBADR (R133). -/
  rbadr : Fin 68
  /-- The readback image has been replaced since the last power-on or hardware reset (R129). -/
  replaced : Bool
  deriving DecidableEq, Repr

/-! ### Tone Allocator and Voice Units (chapter 8) -/

/-- Who posted a request (R138). -/
inductive Source where
  | point (p : PointId)
  | chime
  | horntest
  deriving DecidableEq, Repr

/-- Why a request was posted (R138). -/
inductive RequestKind where
  | alarm | ringback | reminder | chime | horntest
  deriving DecidableEq, Repr

/-- The pass rules (R138). -/
inductive PassRule where
  | header | once | loop
  deriving DecidableEq, Repr

/-- A request (R138); HORNTEST has no priority. -/
structure Request where
  source : Source
  kind : RequestKind
  pattern : PatternId
  rule : PassRule
  priority : Option (Fin 4)
  arrival : Half
  deriving DecidableEq, Repr

/-- A sound is named by its pattern and pass rule (R141). -/
structure Sound where
  pattern : PatternId
  rule : PassRule
  deriving DecidableEq, Repr

structure Tones where
  /-- The request list, oldest first (R139). -/
  requests : List Request
  /-- The arrival counter (R139). -/
  arrival : Half
  /-- The configured voice count, VCNT (R143). -/
  vcnt : Byte
  /-- CHPAT (R156). -/
  chimePattern : PatternId
  chimePriority : Fin 4
  /-- HTPAT (R158). -/
  htpat : PatternId
  /-- VSEL (R159). -/
  vsel : VoiceId
  deriving DecidableEq, Repr

/-- The record of a PLAYING voice (R146). -/
structure Playing where
  sound : Sound
  held : ValidHeader
  stepIndex : Nat
  latched : Step
  remaining : Nat
  /-- Passes left; none is unlimited. -/
  passes : Option Nat
  envLevel : Nat
  envCount : Nat
  deriving DecidableEq, Repr

/-- A voice: none is IDLE (R146). -/
abbrev Voice := Option Playing

/-! ### Lamp Driver and Supply Guard (chapter 9) -/

structure Lamps where
  /-- LMPLV, TSTLV, ECCAP (R162). -/
  lmplv : Byte
  tstlv : Byte
  eccap : Byte
  /-- What each lamp pin is driven to in the present drive period: off, or on at a level (R166). -/
  drive : Vector (Option Nat) 32
  deriving DecidableEq, Repr

inductive SupplyState where
  | ok | economy | blackout
  deriving DecidableEq, Repr

structure Supply where
  state : SupplyState
  /-- The last level (R169). -/
  last : BitVec 4
  /-- The transition counts, in the order of the table of R171. -/
  count1 : Nat
  count2 : Nat
  /-- The VDRV sample of this tick is still to be taken (R169). -/
  sampleDue : Bool
  /-- ECOLV, ECHYS (R170). -/
  ecolv : Byte
  echys : Byte
  deriving DecidableEq, Repr

/-! ### Event Queue (chapter 10) -/

/-- The record kinds (R177). -/
inductive Kind where
  | alarm | return | standing | action | shelve | unshelve | groupCapture | groupRearm
  | patternMissing | patternUpdated | supply | sync | controller | testTimeout
  | transferAbandoned | refusal
  deriving DecidableEq, Repr

/-- The record categories (R177). -/
inductive RecordCategory where
  | point | group | operator | system
  deriving DecidableEq, Repr

/-- An event record (R176). -/
structure Record where
  kind : Kind
  seq : Half
  time : Clock
  point : Option (Fin 32)
  source : Byte
  detail : Byte
  deriving DecidableEq, Repr

structure EventQueue where
  /-- The records, oldest first (R178). -/
  records : List Record
  /-- The sequence counter (R178). -/
  seq : Half
  /-- The read latch (R182). -/
  latch : Option Record
  /-- EVMSK (R181). -/
  mask : BitVec 4
  /-- EVTHR (R180). -/
  threshold : Byte
  deriving DecidableEq, Repr

/-! ### Interrupt Unit (chapter 11) -/

/-- The interrupt causes (R198). -/
inductive Cause where
  | alarm | return | shelfexp | action | testend | evqne | evqth | evqov
  | xdone | rbrdy | supply | sync | ctlstate | patmiss | refused
  deriving DecidableEq, Repr

/-- The cause categories (R198). -/
inductive CauseCategory where
  | point | operator | queue | transfer | system | fault
  deriving DecidableEq, Repr

structure Irq where
  /-- The flags; bit n is cause code n + 1 (R198). -/
  flags : BitVec 15
  /-- The enables, in the same places (R198). -/
  enables : BitVec 15
  /-- The levels of the six categories and the threshold (R199). -/
  levelPoint : BitVec 2
  levelOperator : BitVec 2
  levelQueue : BitVec 2
  levelTransfer : BitVec 2
  levelSystem : BitVec 2
  levelFault : BitVec 2
  threshold : BitVec 2
  deriving DecidableEq, Repr

/-- The hold byte of a partner byte, and whether a read of the partner follows (R200). -/
structure Hold where
  value : Byte
  follows : Bool
  deriving DecidableEq, Repr

/-- The state of the part. -/
structure State where
  /-- The commands that are waiting, first in, first out. -/
  pending : List Instr
  /-- The field pins' levels at the last tick. -/
  pins : Pins
  /-- The reset input is held low (R196). -/
  resetLow : Bool
  /-- The byte the most recent read drove on the data lines (R200). -/
  dataOut : Option Byte
  ctl : Control
  time : Timebase
  scan : Scanner
  window : PointWindow
  points : Vector Point 32
  gsel : GroupId
  groups : Vector Group 8
  panel : Panel
  store : Store
  xfer : TransferEngine
  tones : Tones
  voices : Vector Voice 4
  lamps : Lamps
  supply : Supply
  evq : EventQueue
  irq : Irq
  /-- The hold bytes, at the places `Partner.index` gives (R200). -/
  holds : Vector Hold 16
  deriving DecidableEq, Repr

/-! ### Values after power-on reset -/

def Control.reset : Control :=
  { state := .init, settleStart := none, setl := 20, quietStart := false, refAddr := 0, refReason := .none }

def Timebase.reset : Timebase :=
  { tdiv := 2048, tdivStaging := 0, divisorInUse := 2048, clock := 0, elen := 125, eighthLen := 125,
    intoEighth := 0, eighth := 0, cycle := 0, role := .solo, sync := .free, misses := 0,
    lineLowUntil := none, lowRun := .none }

def Scanner.reset : Scanner := { period := .ms5, count := none, number := 0 }

def PointWindow.reset : PointWindow :=
  { psel := 0, onStaging := 0, offStaging := 0, reminderStaging := 0, shdur := 0, shdurStaging := 0 }

/-- The last column of the table of R2. -/
def PointConfig.reset : PointConfig :=
  { enabled := false, alarmLevel := .low, debounceLess1 := 1, cls := .l, group := none, priority := 0,
    onDelay := 0, offDelay := 0, alarmPattern := none, ringbackPattern := none, reminder := none }

/-- The cleared qualification state (R19). -/
def Qual.clear : Qual := { abnormal := false, agreement := 0, active := false, timer := .idle }

/-- The cleared sequence fields (R21). -/
def Seq.clear : Seq :=
  { state := .normal, mark := .none, shelf := .none, silenced := false, toneDone := false, alarmTime := 0 }

def Point.reset : Point := { cfg := .reset, qual := .clear, seq := .clear }

/-- The OPEN group record (R50). -/
def Group.opened : Group := { captured := false, captureScan := 0 }

def TestRecord.reset : TestRecord :=
  { state := .idle, start := 0, panelParty := false, press := 0, hostParty := false }

def Panel.reset : Panel :=
  { filters := Vector.replicate 4 { pressed := false, changes := 0 }, sampleDue := false, plock := 0,
    ascp := .all, agrd := 0, test := .reset }

/-- The step an initialisation writes: REST, level 8, duration 1 (R116). -/
def Step.initial : Step := { tone := none, level := 8, duration := 1 }

/-- The store right after power-on reset: a full initialisation has begun (R116). Its tables are unknown
there and nobody can read them; the values named are DESIGN CHOICE, unsafe (log 8). -/
def Store.reset : Store :=
  { headers := Vector.replicate 32 none, steps := Vector.replicate 256 .initial,
    stepsInitialised := false, init := some .full }

def TransferEngine.reset : TransferEngine :=
  { draft := Vector.replicate 68 0, dradr := 0, xid := 0, queue := [], accessDue := false,
    image := Vector.replicate 68 0, rbadr := 0, replaced := false }

def Tones.reset : Tones :=
  { requests := [], arrival := 0, vcnt := 4, chimePattern := 0, chimePriority := 0, htpat := 0, vsel := 0 }

def Lamps.reset : Lamps := { lmplv := 1, tstlv := 1, eccap := 5, drive := Vector.replicate 32 none }

def Supply.reset : Supply :=
  { state := .ok, last := 0, count1 := 0, count2 := 0, sampleDue := false, ecolv := 6, echys := 2 }

def EventQueue.reset : EventQueue := { records := [], seq := 0, latch := none, mask := 0, threshold := 48 }

def Irq.reset : Irq :=
  { flags := 0, enables := 0, levelPoint := 0, levelOperator := 0, levelQueue := 0, levelTransfer := 0,
    levelSystem := 0, levelFault := 0, threshold := 0 }

/-- The field pins before the first tick: DESIGN CHOICE, unsafe (log 5). -/
def initialPins : Pins := { inputs := 0, buttons := 0xF, csync := true, vdrv := 0 }

/-- The machine right after power-on reset: run clock 0, INIT, a full store initialisation begun (R196). -/
def State.reset : State :=
  { pending := [], pins := initialPins, resetLow := false, dataOut := none, ctl := .reset, time := .reset,
    scan := .reset, window := .reset, points := Vector.replicate 32 .reset, gsel := 0,
    groups := Vector.replicate 8 .opened, panel := .reset, store := .reset, xfer := .reset,
    tones := .reset, voices := Vector.replicate 4 none, lamps := .reset, supply := .reset,
    evq := .reset, irq := .reset, holds := Vector.replicate 16 { value := 0, follows := false } }

end Sys2Proof.Machine
end

