-- ==== Sys2Proof/Machine/Operands.lean ====
section
/-! DEFINITION. The operand forms: the register map, the codes and the byte layouts of chapter 11, read
from bytes and written to bytes. -/

namespace Sys2Proof.Machine

/-! ### The register map -/

/-- The registers of the window (chapter 11, Register Map). -/
inductive Reg where
  | ccmd | csts | rfs0 | rfs1 | tdiv (half : WhichByte) | rclk (i : Fin 4) | elen | srole | cstat | cycnt
  | setl | opts | psel | pcf (i : Fin 9) | pst (i : Fin 4) | pcmd | shdur (half : WhichByte) | scnper
  | scnnum (half : WhichByte) | lout (i : Fin 4) | ascp | actn | agrd | plock | pbtn | tsts | gsel | gcmd
  | gst (i : Fin 6) | dradr | drdat | xid | xreq | xstat0 | xstat1 | rbadr | rbdat | vcnt | vsel
  | vst (i : Fin 3) | rqcnt | chpat | chctl | htpat | lmplv | tstlv | eccap | ecolv | echys | sgst | sglev
  | ev (i : Fin 10) | evcmd | evmsk | evthr | evcnt | evnxt0 | evnxt1 | ics (half : WhichByte)
  | ien (half : WhichByte) | ilv (half : WhichByte) | ivec | evlat
  deriving DecidableEq, Repr

/-- 0 for the byte at the lower address, 1 for the one above it. -/
def whichOffset : WhichByte → Nat
  | .low => 0
  | .high => 1

/-- The address of a register, as a number. -/
def Reg.address : Reg → Nat
  | .ccmd => 0x00 | .csts => 0x01 | .rfs0 => 0x02 | .rfs1 => 0x03 | .tdiv h => 0x04 + whichOffset h
  | .rclk i => 0x06 + i | .elen => 0x0A | .srole => 0x0B | .cstat => 0x0C | .cycnt => 0x0D
  | .setl => 0x0E | .opts => 0x0F | .psel => 0x10 | .pcf i => 0x11 + i | .pst i => 0x1A + i
  | .pcmd => 0x1E | .shdur h => 0x1F + whichOffset h | .scnper => 0x21
  | .scnnum h => 0x22 + whichOffset h | .lout i => 0x24 + i | .ascp => 0x28 | .actn => 0x29
  | .agrd => 0x2A | .plock => 0x2B | .pbtn => 0x2C | .tsts => 0x2D | .gsel => 0x30 | .gcmd => 0x31
  | .gst i => 0x32 + i | .dradr => 0x38 | .drdat => 0x39 | .xid => 0x3A | .xreq => 0x3B
  | .xstat0 => 0x3C | .xstat1 => 0x3D | .rbadr => 0x3E | .rbdat => 0x3F | .vcnt => 0x48 | .vsel => 0x49
  | .vst i => 0x4A + i | .rqcnt => 0x4D | .chpat => 0x4E | .chctl => 0x4F | .htpat => 0x50
  | .lmplv => 0x51 | .tstlv => 0x52 | .eccap => 0x53 | .ecolv => 0x54 | .echys => 0x55 | .sgst => 0x56
  | .sglev => 0x57 | .ev i => 0x58 + i | .evcmd => 0x62 | .evmsk => 0x63 | .evthr => 0x64
  | .evcnt => 0x65 | .evnxt0 => 0x66 | .evnxt1 => 0x67 | .ics h => 0x68 + whichOffset h
  | .ien h => 0x6A + whichOffset h | .ilv h => 0x6C + whichOffset h | .ivec => 0x6E | .evlat => 0x6F

/-- Registers 0x00 to 0x0F, in address order. -/
def regsLow : List Reg :=
  [.ccmd, .csts, .rfs0, .rfs1, .tdiv .low, .tdiv .high, .rclk 0, .rclk 1, .rclk 2, .rclk 3, .elen, .srole,
    .cstat, .cycnt, .setl, .opts]

/-- Registers 0x10 to 0x27. -/
def regsPoint : List Reg :=
  [.psel, .pcf 0, .pcf 1, .pcf 2, .pcf 3, .pcf 4, .pcf 5, .pcf 6, .pcf 7, .pcf 8, .pst 0, .pst 1, .pst 2,
    .pst 3, .pcmd, .shdur .low, .shdur .high, .scnper, .scnnum .low, .scnnum .high, .lout 0, .lout 1,
    .lout 2, .lout 3]

/-- Registers 0x28 to 0x3F. -/
def regsPanel : List Reg :=
  [.ascp, .actn, .agrd, .plock, .pbtn, .tsts, .gsel, .gcmd, .gst 0, .gst 1, .gst 2, .gst 3, .gst 4, .gst 5,
    .dradr, .drdat, .xid, .xreq, .xstat0, .xstat1, .rbadr, .rbdat]

/-- Registers 0x48 to 0x6F. -/
def regsHigh : List Reg :=
  [.vcnt, .vsel, .vst 0, .vst 1, .vst 2, .rqcnt, .chpat, .chctl, .htpat, .lmplv, .tstlv, .eccap, .ecolv,
    .echys, .sgst, .sglev, .ev 0, .ev 1, .ev 2, .ev 3, .ev 4, .ev 5, .ev 6, .ev 7, .ev 8, .ev 9, .evcmd,
    .evmsk, .evthr, .evcnt, .evnxt0, .evnxt1, .ics .low, .ics .high, .ien .low, .ien .high, .ilv .low,
    .ilv .high, .ivec, .evlat]

/-- Every register, in address order. -/
def allRegs : List Reg := regsLow ++ regsPoint ++ regsPanel ++ regsHigh

/-- The register at an address; none for an unassigned address. -/
def regAt (a : BitVec 7) : Option Reg := allRegs.find? (fun r => r.address == a.toNat)

end Sys2Proof.Machine

namespace Sys2Proof

/-- The place of a button in PLOCK, PBTN and `Pins.buttons`. -/
def Button.index : Button → Fin 4
  | .ack => 0 | .sil => 1 | .rst => 2 | .tst => 3

/-- The place of a partner byte's hold byte in `State.holds`. -/
def Partner.index : Partner → Fin 16
  | .rfs1 => 0 | .rclk1 => 1 | .rclk2 => 2 | .rclk3 => 3 | .cycnt => 4 | .pst3 => 5 | .scnnumHigh => 6
  | .lout1 => 7 | .lout2 => 8 | .lout3 => 9 | .gst4 => 10 | .xstat1 => 11 | .vst1 => 12 | .vst2 => 13
  | .sglev => 14 | .evnxt1 => 15

/-- The register a partner byte is. -/
def Partner.reg : Partner → Machine.Reg
  | .rfs1 => .rfs1 | .rclk1 => .rclk 1 | .rclk2 => .rclk 2 | .rclk3 => .rclk 3 | .cycnt => .cycnt
  | .pst3 => .pst 3 | .scnnumHigh => .scnnum .high | .lout1 => .lout 1 | .lout2 => .lout 2
  | .lout3 => .lout 3 | .gst4 => .gst 4 | .xstat1 => .xstat1 | .vst1 => .vst 1 | .vst2 => .vst 2
  | .sglev => .sglev | .evnxt1 => .evnxt1

end Sys2Proof

namespace Sys2Proof.Machine

/-! ### Codes of chapter 11 -/

def CtlState.code : CtlState → Nat
  | .init => 0 | .setup => 1 | .arming => 2 | .active => 3 | .hold => 4

def CtlReason.code : CtlReason → Nat
  | .initDone => 0 | .start => 1 | .settleEnd => 2 | .stop => 3 | .hold => 4 | .resume => 5 | .softreset => 6

def Reason.code : Reason → Nat
  | .none => 0 | .wrongState => 1 | .locked => 2 | .badValue => 3 | .queueFull => 4 | .badCount => 5
  | .badRange => 6 | .badRepeat => 7 | .badStep => 8 | .badId => 9 | .disabledPoint => 10

def SeqState.code : SeqState → Nat
  | .normal => 0 | .alarmUnack => 1 | .alarmAck => 2 | .returnUnack => 3

def Mark.code : Mark → Nat
  | .none => 0 | .first => 1 | .subsequent => 2

def Role.code : Role → Nat
  | .solo => 0 | .leader => 1 | .follower => 2

def Role.ofCode : Nat → Option Role
  | 0 => some .solo | 1 => some .leader | 2 => some .follower | _ => none

def ScanPeriod.code : ScanPeriod → Nat
  | .ms1 => 0 | .ms2 => 1 | .ms5 => 2 | .ms10 => 3

def ScanPeriod.ofCode : Nat → Option ScanPeriod
  | 0 => some .ms1 | 1 => some .ms2 | 2 => some .ms5 | 3 => some .ms10 | _ => none

def ScanPeriod.ticks : ScanPeriod → Nat
  | .ms1 => 1 | .ms2 => 2 | .ms5 => 5 | .ms10 => 10

def TestState.code : TestState → Nat
  | .idle => 0 | .lampTest => 1 | .lampAndHornTest => 2

def SupplyState.code : SupplyState → Nat
  | .ok => 0 | .economy => 1 | .blackout => 2

def PassRule.code : PassRule → Nat
  | .header => 0 | .once => 1 | .loop => 2

/-- The kind codes of PST1 and of a PATTERN_MISSING record. -/
def RequestKind.code : RequestKind → Nat
  | .alarm => 1 | .ringback => 2 | .reminder => 3 | .chime => 4 | .horntest => 5

def Kind.code : Kind → Nat
  | .alarm => 0x01 | .return => 0x02 | .standing => 0x03 | .action => 0x04 | .shelve => 0x05
  | .unshelve => 0x06 | .groupCapture => 0x07 | .groupRearm => 0x08 | .patternMissing => 0x09
  | .patternUpdated => 0x0A | .supply => 0x0B | .sync => 0x0C | .controller => 0x0D
  | .testTimeout => 0x0E | .transferAbandoned => 0x0F | .refusal => 0x10

/-- The category of a record kind (R177). -/
def Kind.category : Kind → RecordCategory
  | .alarm | .return | .standing | .shelve | .unshelve => .point
  | .action | .testTimeout => .operator
  | .groupCapture | .groupRearm => .group
  | .patternMissing | .patternUpdated | .supply | .sync | .controller | .transferAbandoned | .refusal => .system

/-- The place of a category's flag in EVMSK. -/
def RecordCategory.index : RecordCategory → Nat
  | .point => 0 | .group => 1 | .operator => 2 | .system => 3

/-- The four buttons in that order. -/
def allButtons : List Button := [.ack, .sil, .rst, .tst]

/-- The partner bytes. -/
def allPartners : List Partner :=
  [.rfs1, .rclk1, .rclk2, .rclk3, .cycnt, .pst3, .scnnumHigh, .lout1, .lout2, .lout3, .gst4, .xstat1,
    .vst1, .vst2, .sglev, .evnxt1]

/-! ### Actions -/

/-- The operator actions (R72). -/
inductive Action where
  | ack | silence | reset | testStart | testEnd
  deriving DecidableEq, Repr

def Action.code : Action → Nat
  | .ack => 1 | .silence => 2 | .reset => 3 | .testStart => 4 | .testEnd => 5

/-- The sources of an action (R74). -/
inductive ActionSource where
  | panel | host | internal
  deriving DecidableEq, Repr

def ActionSource.code : ActionSource → Nat
  | .panel => 0 | .host => 1 | .internal => 2

/-- The scope kind code of ASCP. -/
def Scope.kindCode : Scope → Nat
  | .all => 0 | .group _ => 1 | .point _ => 2

/-- The scope index: 0 for ALL (R71). -/
def Scope.index : Scope → Nat
  | .all => 0 | .group g => g | .point p => p

/-- The point part of an ACTION record (R74). -/
def Scope.pointPart : Scope → Option (Fin 32)
  | .all => none
  | .group g => some ⟨g, by omega⟩
  | .point p => some p

/-- The value of ASCP. -/
def Scope.toByte (c : Scope) : Byte := byte (c.index + field 6 c.kindCode)

/-- The scope a byte written to ASCP names, when it passes the checks of R71. -/
def Scope.ofByte (v : Byte) : Option Scope :=
  let i := bits v 0 5
  match bits v 6 2 with
  | 0 => some .all
  | 1 => if h : i < 8 then some (.group ⟨i, h⟩) else none
  | 2 => if h : i < 32 then some (.point ⟨i, h⟩) else none
  | _ => none

/-! ### Point configuration bytes -/

def AlarmClass.code : AlarmClass → Nat
  | .n => 0 | .l => 1 | .m => 2 | .r => 3

def AlarmClass.ofCode : Nat → AlarmClass
  | 0 => .n | 1 => .l | 2 => .m | _ => .r

/-- The six-bit code of a pattern field: 63 is NONE. -/
def patternCode : Option PatternId → Nat
  | some p => p
  | none => 63

/-- The pattern field a six-bit code names: 0 to 31, or 63 NONE; 32 to 62 name nothing. -/
def patternOfCode (c : Nat) : Option (Option PatternId) :=
  if h : c < 32 then some (some ⟨c, h⟩) else if c = 63 then some none else none

/-- The four-bit code of the group field: 15 is NONE. -/
def groupCode : Option GroupId → Nat
  | some g => g
  | none => 15

/-- The group field a four-bit code names: 0 to 7, or 15 NONE; 8 to 14 name nothing. -/
def groupOfCode (c : Nat) : Option (Option GroupId) :=
  if h : c < 8 then some (some ⟨c, h⟩) else if c = 15 then some none else none

/-- The reminder that a period code and a staged offset join to, when it passes the check of R4. -/
def reminderOfCodes (period offset : Nat) : Option (Option Reminder) :=
  if period = 0 then some none
  else if period ≤ 6 ∧ offset < 2 ^ period then
    some (some { exponent := BitVec.ofNat 3 period, offset := BitVec.ofNat 6 offset })
  else none

/-- The offset part of a reminder, as PCF7 shows it; NONE stores an offset of 0 (R4). -/
def reminderOffset : Option Reminder → Nat
  | none => 0
  | some r => r.offset.toNat

def reminderPeriod : Option Reminder → Nat
  | none => 0
  | some r => r.exponent.toNat

/-- The value of PCF0 to PCF8 for a configuration part (R5). -/
def PointConfig.toByte (c : PointConfig) (i : Fin 9) : Byte :=
  match i with
  | 0 => byte (bit c.enabled + field 1 (bit (c.alarmLevel = .high)) + field 2 c.debounceLess1.toNat +
      field 5 c.cls.code)
  | 1 => byte (patternCode c.ringbackPattern + field 6 c.priority)
  | 2 => byte (c.onDelay.toNat % 256)
  | 3 => byte (c.onDelay.toNat / 256)
  | 4 => byte (c.offDelay.toNat % 256)
  | 5 => byte (c.offDelay.toNat / 256)
  | 6 => byte (patternCode c.alarmPattern)
  | 7 => byte (reminderOffset c.reminder)
  | 8 => byte (reminderPeriod c.reminder + field 3 (groupCode c.group))

/-! ### Point state bytes -/

def Timer.kindCode : Timer → Nat
  | .idle => 0
  | .running .onDelay _ | .frozen .onDelay _ => 1
  | .running .offDelay _ | .frozen .offDelay _ => 2

/-- The remaining shelf seconds shown: 0 when not shelved or indefinite (R49). -/
def Shelf.shownSeconds : Shelf → Nat
  | .none | .indefinite => 0
  | .finite seconds _ => seconds

/-- The value of PST0 to PST3 for a run part and the kind of its request (R16, R49). -/
def pointStateByte (q : Qual) (a : Seq) (request : Option RequestKind) (i : Fin 4) : Byte :=
  match i with
  | 0 => byte (bit q.abnormal + field 1 (bit q.active) + field 2 q.timer.kindCode + field 4 q.agreement +
      field 7 (bit a.toneDone))
  | 1 => byte (a.state.code + field 2 a.mark.code + field 4 (bit (a.shelf ≠ .none)) +
      field 5 (bit a.silenced) + field 6 ((request.map RequestKind.code).getD 0))
  | 2 => byte (a.shelf.shownSeconds % 256)
  | 3 => byte (a.shelf.shownSeconds / 256)

/-! ### Pattern images -/

def Interval.ms : Interval → Nat
  | .ms50 => 50 | .ms100 => 100 | .ms200 => 200 | .ms400 => 400

def Interval.code : Interval → Nat
  | .ms50 => 0 | .ms100 => 1 | .ms200 => 2 | .ms400 => 3

def Interval.ofCode : Nat → Interval
  | 0 => .ms50 | 1 => .ms100 | 2 => .ms200 | _ => .ms400

def Repeat.code : Repeat → Nat
  | .once => 0
  | .loop => 1
  | .count n => n

/-- The repeat a code of 0 to 15 names (R123). -/
def Repeat.ofCode : Nat → Repeat
  | 0 => .once
  | 1 => .loop
  | n => .count n

/-- The header image of a header, as a fetch delivers it (R132). -/
def headerImage : Header → List Byte
  | none => [0, 0, 0, 0]
  | some h =>
    let env := match h.envelope with
      | .off => 0
      | .decay i => field 1 1 + field 2 i.code
    [byte (1 + env), byte h.rep.code, byte h.count, byte h.first]

/-- The step image of a step (R124). -/
def stepImage (t : Step) : List Byte :=
  [byte ((t.tone.map Fin.val).getD 16 + field 5 (t.level - 1)), byte t.duration]

/-- The image a fetch delivers: header image, step images, zero beyond (R132). -/
def imageOf (h : Header) (steps : List Step) : Image :=
  let bytes := headerImage h ++ (steps.map stepImage).flatten
  Vector.ofFn fun i => bytes.getD i 0

/-- The draft header fields (R123): valid flag, envelope, repeat code, count and first step. -/
def Image.valid (d : Image) : Bool := bits d[0] 0 1 = 1

def Image.envelope (d : Image) : Envelope :=
  if bits d[0] 1 1 = 1 then .decay (.ofCode (bits d[0] 2 2)) else .off

def Image.repeatCode (d : Image) : Nat := d[1].toNat
def Image.count (d : Image) : Nat := d[2].toNat
def Image.first (d : Image) : Nat := d[3].toNat

/-- The header a commit of the draft writes: the empty header for valid no (R127, R128). -/
def Image.header (d : Image) : Header :=
  if d.valid then
    some { rep := .ofCode d.repeatCode, envelope := d.envelope, count := d.count, first := d.first }
  else none

/-- The byte at a place of an image; 0 beyond its end. -/
def Image.at (d : Image) (i : Nat) : Byte := d.toList.getD i 0

/-- Step image `i` is legal: its tone code is 0 to 16 and its duration is not 0 (R124). -/
def Image.stepLegal (d : Image) (i : Nat) : Bool :=
  bits (d.at (4 + 2 * i)) 0 5 ≤ 16 ∧ d.at (5 + 2 * i) ≠ 0

/-- The step that step image `i` holds (R124). -/
def Image.step (d : Image) (i : Nat) : Step :=
  let code := bits (d.at (4 + 2 * i)) 0 5
  { tone := if h : code < 16 then some ⟨code, h⟩ else none,
    level := bits (d.at (4 + 2 * i)) 5 3 + 1,
    duration := (d.at (5 + 2 * i)).toNat }

/-- Step images 0 to count − 1 of the draft (R128). -/
def Image.steps (d : Image) : List Step := (List.range d.count).map d.step

/-! ### Transfer requests -/

/-- The requests written to XREQ (R126). -/
inductive TransferRequest where
  | commitHeader | commitSteps | commitBoth | fetch
  deriving DecidableEq, Repr

def TransferRequest.code : TransferRequest → Nat
  | .commitHeader => 1 | .commitSteps => 2 | .commitBoth => 3 | .fetch => 4

/-- The request an entry carries. -/
def Transfer.request : Transfer → TransferRequest
  | .commitHeader _ => .commitHeader
  | .commitSteps _ _ => .commitSteps
  | .commitBoth _ _ _ => .commitBoth
  | .fetch _ => .fetch

end Sys2Proof.Machine
end

