-- ==== Sys2Proof/Machine/Flags.lean ====
section
/-! DEFINITION. The Interrupt Unit: every flag's setting and clearing, IRQ and the vector (R198, R199). -/

namespace Sys2Proof.Machine

/-- The code of a cause (R198). -/
def Cause.code : Cause → Nat
  | .alarm => 1 | .return => 2 | .shelfexp => 3 | .action => 4 | .testend => 5 | .evqne => 6 | .evqth => 7
  | .evqov => 8 | .xdone => 9 | .rbrdy => 10 | .supply => 11 | .sync => 12 | .ctlstate => 13
  | .patmiss => 14 | .refused => 15

/-- The category of a cause (R198). -/
def Cause.category : Cause → CauseCategory
  | .alarm | .return | .shelfexp => .point
  | .action | .testend => .operator
  | .evqne | .evqth | .evqov => .queue
  | .xdone | .rbrdy => .transfer
  | .supply | .sync | .ctlstate => .system
  | .patmiss | .refused => .fault

/-- The causes in code order. -/
def allCauses : List Cause :=
  [.alarm, .return, .shelfexp, .action, .testend, .evqne, .evqth, .evqov, .xdone, .rbrdy, .supply, .sync,
    .ctlstate, .patmiss, .refused]

/-- The mask of a cause's place in the flags. -/
def Cause.mask (c : Cause) : BitVec 15 := BitVec.ofNat 15 (2 ^ (c.code - 1))

/-- The flag of a cause. -/
def Irq.flag (u : Irq) (c : Cause) : Bool := u.flags.getLsbD (c.code - 1)

/-- Sets a cause, whatever its enable (R198). -/
def Irq.set (u : Irq) (c : Cause) : Irq := { u with flags := u.flags ||| c.mask }

/-- Sets causes in order. -/
def Irq.setAll (u : Irq) (cs : List Cause) : Irq := cs.foldl Irq.set u

/-- Clears the flags whose bits are 1 in `m`, but EVQNE while the Event Queue holds a record (R185, R198). -/
def Irq.clear (u : Irq) (m : BitVec 15) (queueHolds : Bool) : Irq :=
  { u with flags := u.flags &&& ~~~(if queueHolds then m &&& ~~~Cause.evqne.mask else m) }

/-- The level of a category (R199). -/
def Irq.level (u : Irq) : CauseCategory → BitVec 2
  | .point => u.levelPoint
  | .operator => u.levelOperator
  | .queue => u.levelQueue
  | .transfer => u.levelTransfer
  | .system => u.levelSystem
  | .fault => u.levelFault

/-- A cause is asserted while its flag and its enable are set and its level exceeds the threshold (R199). -/
def Irq.asserted (u : Irq) (c : Cause) : Bool :=
  u.flag c && u.enables.getLsbD (c.code - 1) && decide (u.threshold.toNat < (u.level c.category).toNat)

/-- IRQ is pulled low while any cause is asserted (R199). -/
def Irq.irqLow (u : Irq) : Bool := allCauses.any u.asserted

/-- The order that breaks a tie between categories (R199). -/
def vectorOrder : List CauseCategory := [.fault, .point, .operator, .system, .queue, .transfer]

/-- The causes in the order in which a tie of levels is broken: by category, then by code (R199). -/
def vectorCauses : List Cause := vectorOrder.flatMap fun k => allCauses.filter fun c => c.category = k

/-- The first asserted cause of the given level in that order. -/
def Irq.assertedAt (u : Irq) (level : Nat) : Option Cause :=
  vectorCauses.find? fun c => u.asserted c && decide ((u.level c.category).toNat = level)

/-- The vector: the code of the asserted cause of the highest level, 0 when none is asserted (R199). -/
def Irq.vector (u : Irq) : Nat :=
  match u.assertedAt 3 <|> u.assertedAt 2 <|> u.assertedAt 1 with
  | some c => c.code
  | none => 0

/-- ICS0 and ICS1, or IEN0 and IEN1: the low eight and the high seven places (chapter 11). -/
def halfOf (v : BitVec 15) : WhichByte → Byte
  | .low => byte (v.toNat % 256)
  | .high => byte (v.toNat / 256)

/-- The fifteen places with a written byte at one half and zero at the other. -/
def ofHalf (h : WhichByte) (v : Byte) : BitVec 15 :=
  match h with
  | .low => BitVec.ofNat 15 v.toNat
  | .high => BitVec.ofNat 15 (v.toNat % 128 * 256)

/-- The fifteen places of `u` with the byte `v` written to one half (R198). -/
def putHalf (u : BitVec 15) (h : WhichByte) (v : Byte) : BitVec 15 :=
  match h with
  | .low => BitVec.ofNat 15 (u.toNat / 256 * 256 + v.toNat)
  | .high => BitVec.ofNat 15 (v.toNat % 128 * 256 + u.toNat % 256)

/-- ILV0 and ILV1 (chapter 11). -/
def Irq.levelByte (u : Irq) : WhichByte → Byte
  | .low => byte (u.levelPoint.toNat + field 2 u.levelOperator.toNat + field 4 u.levelQueue.toNat +
      field 6 u.levelTransfer.toNat)
  | .high => byte (u.levelSystem.toNat + field 2 u.levelFault.toNat + field 4 u.threshold.toNat)

/-- A write of ILV0 or ILV1 (R199). -/
def Irq.writeLevels (u : Irq) (h : WhichByte) (v : Byte) : Irq :=
  let two (lo : Nat) : BitVec 2 := BitVec.ofNat 2 (bits v lo 2)
  match h with
  | .low => { u with levelPoint := two 0, levelOperator := two 2, levelQueue := two 4, levelTransfer := two 6 }
  | .high => { u with levelSystem := two 0, levelFault := two 2, threshold := two 4 }

end Sys2Proof.Machine
end

