-- ==== Sys2Proof/Machine/Ops.lean ====
section
/-! DEFINITION. The operations every block shares: making a record, setting a cause, refusing a write,
reaching a point or a group, and the frame of a command. -/

namespace Sys2Proof.Machine

/-- What a meaning answers. -/
abbrev Out := Host.Outcome State Fault Refusal

/-- A command's effect, with nothing done while the reset input is held low: then every block holds its
hardware-reset values and bus accesses are ignored (R196). -/
def ran (f : State → State) (s : State) : Out := .next (if s.resetLow then s else f s)

/-! ### Records and causes -/

/-- The category of a kind is masked (R181). -/
def EventQueue.masked (q : EventQueue) (k : Kind) : Bool := q.mask.getLsbD k.category.index

/-- The insertion of a record: it takes the counter's number and joins at the newest end; a full queue
discards its oldest record first (R178, R179). -/
def EventQueue.insert (q : EventQueue) (r : Record) : EventQueue :=
  { q with
    records := (if q.records.length < Config.eventCapacity then q.records else q.records.tail) ++ [r]
    seq := q.seq + 1 }

/-- The queue after a record is handed to it: unchanged while its category is masked (R179, R181). -/
def EventQueue.offer (q : EventQueue) (k : Kind) (t : Clock) (point : Option (Fin 32)) (source detail : Byte) :
    EventQueue :=
  if q.masked k then q
  else q.insert { kind := k, seq := q.seq, time := t, point := point, source := source, detail := detail }

/-- The causes an insertion sets: EVQNE into an empty queue, EVQOV on an overwrite, EVQTH when the fill
count is then at or above the threshold (R179, R180). -/
def EventQueue.offerCauses (q : EventQueue) (k : Kind) : List Cause :=
  if q.masked k then []
  else
    (if q.records.isEmpty then [.evqne] else []) ++
    (if Config.eventCapacity ≤ q.records.length then [.evqov] else []) ++
    (if q.threshold.toNat ≤ min (q.records.length + 1) Config.eventCapacity then [.evqth] else [])

/-- A block makes a record at the run clock's present value (R176, R179). -/
def State.record (s : State) (k : Kind) (point : Option (Fin 32)) (source detail : Nat) : State :=
  { s with
    evq := s.evq.offer k s.time.clock point (byte source) (byte detail)
    irq := s.irq.setAll (s.evq.offerCauses k) }

/-- A block sets a cause (R198). -/
def State.setCause (s : State) (c : Cause) : State := { s with irq := s.irq.set c }

/-! ### Refusals (R197) -/

/-- A refused register write: the refusal record and the REFUSED cause. -/
def State.refuse (s : State) (r : Reg) (why : Reason) : State :=
  State.setCause { s with ctl := { s.ctl with refAddr := BitVec.ofNat 7 r.address, refReason := why } } .refused

/-- A refused command: besides, a REFUSAL record. -/
def State.refuseCommand (s : State) (r : Reg) (why : Reason) : State :=
  (s.refuse r why).record .refusal none r.address why.code

/-! ### Points -/

/-- The record of a point. -/
def State.point (s : State) (p : PointId) : Point := s.points[p]

/-- Changes the sequence fields of a point. -/
def State.modSeq (s : State) (p : PointId) (f : Seq → Seq) : State :=
  { s with points := s.points.set p { s.point p with seq := f (s.point p).seq } }

/-- Changes the configuration part of a point. -/
def State.modCfg (s : State) (p : PointId) (f : PointConfig → PointConfig) : State :=
  { s with points := s.points.set p { s.point p with cfg := f (s.point p).cfg } }

/-- The points in ascending number. -/
def allPoints : List PointId := List.finRange 32

/-- The number of enabled points (R82). -/
def State.enabledCount (s : State) : Nat := (allPoints.filter fun p => (s.point p).cfg.enabled).length

/-- `given` first, each once, then the rest of `all` in its own order: every element of `all` once. -/
def inOrder {α : Type} [DecidableEq α] (given all : List α) : List α :=
  given.eraseDups.filter (· ∈ all) ++ all.filter (· ∉ given)

/-- The debounce value, 1 to 8 (R2). -/
def PointConfig.debounce (c : PointConfig) : Nat := c.debounceLess1.toNat + 1

/-! ### Groups -/

/-- The record of a group. -/
def State.group (s : State) (g : GroupId) : Group := s.groups[g]

def State.setGroup (s : State) (g : GroupId) (r : Group) : State := { s with groups := s.groups.set g r }

/-- A member of a group: an enabled point whose group field names it (R51). -/
def State.member (s : State) (g : GroupId) (p : PointId) : Bool :=
  (s.point p).cfg.enabled && decide ((s.point p).cfg.group = some g)

/-- The points of a group that carry a mark, in ascending number (R50). -/
def State.marked (s : State) (g : GroupId) (m : Mark) : List PointId :=
  allPoints.filter fun p => decide ((s.point p).cfg.group = some g) && decide ((s.point p).seq.mark = m)

/-! ### Hold bytes -/

def State.holdOf (s : State) (b : Partner) : Hold := s.holds[b.index]

/-- A read of a first byte copies its partners into their hold bytes; a read of each then follows (R200). -/
def State.copyHolds (s : State) (values : List (Partner × Byte)) : State :=
  { s with holds := values.foldl (fun h v => h.set v.1.index { value := v.2, follows := true }) s.holds }

/-- The byte a read drives on the data lines (R200). -/
def State.drives (s : State) (v : Byte) : State := { s with dataOut := some v }

/-! ### The point window -/

/-- The staging bytes are filled from the selected point's values (R4). -/
def State.reloadStaging (s : State) : State :=
  let c := (s.point s.window.psel).cfg
  { s with window :=
      { s.window with
        onStaging := c.toByte 2
        offStaging := c.toByte 4
        reminderStaging := c.toByte 7 } }

/-! ### Changes of the controller state -/

/-- A CONTROLLER record for a change from `left` to the present state, and CTLSTATE (R188). -/
def State.controllerRecord (s : State) (left : CtlState) (why : CtlReason) : State :=
  (s.record .controller none (left.code + field 4 why.code) s.ctl.state.code).setCause .ctlstate

def State.setCtl (s : State) (c : CtlState) : State := { s with ctl := { s.ctl with state := c } }

end Sys2Proof.Machine
end

