-- ==== Sys2Proof/Machine/Voices.lean ====
section
/-! DEFINITION. The Voice Units: starting a sound, playing a step, the envelope, joins (chapter 8), and what
each tone output carries (chapter 6). -/

namespace Sys2Proof.Machine

/-- The sound a request belongs to (R141). -/
def Request.sound (r : Request) : Sound := { pattern := r.pattern, rule := r.rule }

/-- The full number of passes for a pass rule and a repeat; none is unlimited (R147). -/
def fullPasses (rule : PassRule) (rep : Repeat) : Option Nat :=
  match rule, rep with
  | .header, .once => some 1
  | .header, .count n => some n
  | .header, .loop => none
  | .once, _ => some 1
  | .loop, _ => none

/-- A step of the store by its number (R113). -/
def Store.step (st : Store) (n : Nat) : Step := st.steps.toList.getD n .initial

/-- The header of a pattern (R105). -/
def Store.header (st : Store) (p : PatternId) : Header := st.headers[p]

/-- A step is latched and begins (R147, R148). -/
def Playing.beginStep (p : Playing) (st : Store) (index : Nat) : Playing :=
  let t := st.step (p.held.first + index)
  { p with
    stepIndex := index
    latched := t
    remaining := t.duration * 10
    envLevel := t.level
    envCount := 0 }

/-- A sound starts with the header read: step 0, full passes (R147). -/
def Playing.start (st : Store) (x : Sound) (h : ValidHeader) : Playing :=
  Playing.beginStep
    { sound := x, held := h, stepIndex := 0, latched := .initial, remaining := 0,
      passes := fullPasses x.rule h.rep, envLevel := 0, envCount := 0 } st 0

/-- A request joins a playing sound: the full number of passes and one for the pass in progress (R152). -/
def Playing.join (p : Playing) : Playing :=
  { p with passes := p.passes.bind fun _ => (fullPasses p.sound.rule p.held.rep).map (· + 1) }

/-- One tick of a playing voice: the remaining time, and the envelope count under DECAY (R148, R149). -/
def Playing.tick (p : Playing) : Playing :=
  { p with
    remaining := p.remaining - 1
    envCount := match p.held.envelope with
      | .off => p.envCount
      | .decay _ => p.envCount + 1 }

/-- The step boundary is due: the remaining time has reached 0 (R148). -/
def Playing.boundaryDue (p : Playing) : Bool := p.remaining == 0

/-- The decay is due: the envelope count has reached the interval, at a tick that does not end the step (R149). -/
def Playing.decayDue (p : Playing) : Bool :=
  match p.held.envelope with
  | .off => false
  | .decay i => decide (i.ms ≤ p.envCount) && p.remaining != 0

/-- The weakening by one level; a level of 8 stays (R149). -/
def Playing.decay (p : Playing) : Playing := { p with envLevel := min (p.envLevel + 1) 8, envCount := 0 }

/-- The header read at a boundary is taken (R150, step 2): first step, count and envelope, and under HEADER a
changed repeat with its full number of passes. -/
def Playing.takeHeader (p : Playing) (h : ValidHeader) : Playing :=
  if p.sound.rule = .header ∧ h.rep ≠ p.held.rep then
    { p with held := h, passes := fullPasses .header h.rep }
  else { p with held := { h with rep := p.held.rep } }

/-- What a step boundary leaves a voice whose header is valid: the next step, a new pass, or none when the
sound completes (R150, R151). -/
def Playing.boundary (p : Playing) (st : Store) (h : ValidHeader) : Option Playing :=
  let q := p.takeHeader h
  if q.stepIndex + 1 < q.held.count then some (q.beginStep st (q.stepIndex + 1))
  else
    match q.passes with
    | none => some (q.beginStep st 0)
    | some n => if n - 1 = 0 then none else some ({ q with passes := some (n - 1) }.beginStep st 0)

/-- What a tone output carries: frequency in Hz and high share in %; none while it is idle (R111, R112, R146). -/
def Playing.tone (p : Playing) : Option (Nat × Nat) :=
  p.latched.tone.map fun t => (Config.toneFrequency t, Config.voiceShare p.envLevel)

/-- The tone output of a voice (R112). -/
def State.toneOut (s : State) (v : VoiceId) : Option (Nat × Nat) := s.voices[v].bind Playing.tone

end Sys2Proof.Machine
end

