-- ==== Sys2Proof/Machine/Allocator.lean ====
section
/-! DEFINITION. The Tone Allocator: the request list, the ranking of sounds, the effective voice limit and
the allocation (R138 to R145, R152, R153). -/

namespace Sys2Proof.Machine

/-- The kind of the request a source holds (R25, R138). -/
def State.requestKind (s : State) (src : Source) : Option RequestKind :=
  (s.tones.requests.find? fun r => r.source = src).map Request.kind

/-- A source holds a request. -/
def State.holdsRequest (s : State) (src : Source) : Bool := s.tones.requests.any fun r => r.source = src

/-- The effective voice limit (R143). -/
def State.voiceLimit (s : State) : Nat :=
  if s.ctl.state = .active then
    match s.supply.state with
    | .ok => s.tones.vcnt.toNat
    | .economy => 1
    | .blackout => 0
  else 0

/-! ### Ranking (R142) -/

/-- The order of the kinds within one priority (R142). -/
def RequestKind.rank : RequestKind → Nat
  | .alarm => 3 | .reminder => 2 | .ringback => 1 | .chime | .horntest => 0

/-- The first two keys of rank as one number; HORNTEST lies below every other request (R142). -/
def Request.rank (r : Request) : Nat :=
  match r.kind, r.priority with
  | .horntest, _ => 0
  | k, p => 1 + 4 * ((p.map Fin.val).getD 0) + k.rank

/-- Places a request before the first that ranks no higher: it is older than all of them (R142, key 3). -/
def insertByRank (r : Request) : List Request → List Request
  | [] => [r]
  | x :: rest => if x.rank ≤ r.rank then r :: x :: rest else x :: insertByRank r rest

/-- The requests of a list, oldest first, in order of rank, highest first. -/
def byRank (rs : List Request) : List Request := rs.foldr insertByRank []

/-- Each sound at its first place. -/
def firstPlaces : List Sound → List Sound
  | [] => []
  | x :: rest => x :: (firstPlaces rest).filter (· ≠ x)

/-- The sounds that exist, ranked by their best requests, highest first (R141, R142). -/
def rankedSounds (rs : List Request) : List Sound := firstPlaces ((byRank rs).map Request.sound)

/-! ### Allocation (R144) -/

/-- The sound each voice serves. -/
def soundsOf (vs : Vector Voice 4) : List (Option Sound) := vs.toList.map (·.map Playing.sound)

/-- A sound is PLAYING on some voice. -/
def State.isPlaying (s : State) (x : Sound) : Bool := decide (some x ∈ soundsOf s.voices)

/-- Voices whose sound is not kept become IDLE. -/
def keepVoices (vs : Vector Voice 4) (keep : Sound → Bool) : Vector Voice 4 :=
  vs.map fun v => v.filter fun p => keep p.sound

/-- The lowest-ranked of the sounds that hold a slot loses it. -/
def dropLowest (ranked : List Sound) (slots : List (Option Sound)) : List (Option Sound) :=
  match (ranked.filter fun x => decide (some x ∈ slots)).getLast? with
  | none => slots
  | some low => slots.map fun o => if o = some low then none else o

/-- A sound takes the lowest-numbered free slot. -/
def takeLowestIdle : List (Option Sound) → Sound → List (Option Sound)
  | [], _ => []
  | none :: rest, w => some w :: rest
  | some x :: rest, w => some x :: takeLowestIdle rest w

/-- One entitled waiting sound takes a voice, by preemption if the limit is reached (R144, step 4). -/
def claim (ranked : List Sound) (limit : Nat) (slots : List (Option Sound)) (w : Sound) : List (Option Sound) :=
  takeLowestIdle
    (if (slots.filter Option.isSome).length < limit then slots else dropLowest ranked slots) w

/-- What one occasion decides. -/
structure Plan where
  /-- The sound of each voice after steps 1 to 4. -/
  slots : List (Option Sound)
  /-- The sounds that took a voice, in the order they took it. -/
  starting : List Sound

/-- Steps 1 to 4 of R144 on the sounds of the four voices. -/
def planOf (rs : List Request) (limit : Nat) (voices : List (Option Sound)) : Plan :=
  let ranked := rankedSounds rs
  let entitled := ranked.take limit
  -- steps 1 and 3: of the sounds that exist and play, the highest-ranked up to the limit keep their voices
  let kept := (ranked.filter fun x => decide (some x ∈ voices)).take limit
  let slots : List (Option Sound) := voices.map fun o => o.filter fun x => decide (x ∈ kept)
  -- step 4: the entitled sounds that wait, highest rank first
  let waiting := entitled.filter fun x => decide (some x ∉ slots)
  { slots := waiting.foldl (claim ranked limit) slots, starting := waiting }

/-- The voice that holds the slot of a sound. -/
def voiceOfSlot (slots : List (Option Sound)) (x : Sound) : Option VoiceId :=
  (List.finRange 4).find? fun v => slots[v.val]? = some (some x)

/-- The point a request of a point belongs to, for a record. -/
def Source.pointPart : Source → Option (Fin 32)
  | .point p => some p
  | .chime | .horntest => none

/-- The removal of a request whose sound completed or was missing gives its point tone done, for ALARM and
RINGBACK (R151, R153). -/
def markToneDone (ps : Vector Point 32) (r : Request) : Vector Point 32 :=
  match r.source, r.kind with
  | .point p, .alarm | .point p, .ringback =>
    ps.set p { ps[p] with seq := { ps[p].seq with toneDone := true } }
  | _, _ => ps

/-- Every request of a sound is removed from the list, in list order (R151, R153). -/
def State.removeSound (s : State) (x : Sound) : State :=
  { s with
    tones := { s.tones with requests := s.tones.requests.filter fun r => r.sound ≠ x }
    points := (s.tones.requests.filter fun r => r.sound = x).foldl markToneDone s.points }

/-- One PATTERN_MISSING record (R153). -/
def State.missingRecord (s : State) (r : Request) : State :=
  s.record .patternMissing r.source.pointPart r.kind.code r.pattern

/-- A sound ends as missing, but for its voice and for the occasion that follows (R153, steps 2 to 4). -/
def State.soundMissing (s : State) (x : Sound) : State :=
  ((s.tones.requests.filter fun r => r.sound = x).foldl State.missingRecord (s.removeSound x)).setCause .patmiss

/-- A sound starts on the voice it took (R147): it plays, or its header is empty and it ends as missing. -/
def State.startSound (slots : List (Option Sound)) (s : State) (x : Sound) : State :=
  match s.store.header x.pattern with
  | none => s.soundMissing x
  | some h =>
    match voiceOfSlot slots x with
    | none => s
    | some v => { s with voices := s.voices.set v (some (.start s.store x h)) }

/-- The plan of an occasion at a state. -/
def State.plan (s : State) : Plan := planOf s.tones.requests s.voiceLimit (soundsOf s.voices)

/-- A plan is carried out: voices whose sounds lost them go IDLE, then each new sound starts (R144, step 5). -/
def State.carryOut (s : State) (p : Plan) : State :=
  p.starting.foldl (State.startSound p.slots)
    { s with voices := keepVoices s.voices fun x => decide (some x ∈ p.slots) }

/-- Some sound that took a voice finds its header empty. -/
def Plan.anyMissing (p : Plan) (st : Store) : Bool := p.starting.any fun x => (st.header x.pattern).isNone

/-- Occasions one after the other: a start that finds its pattern missing is followed by a further one, once
every start of the present one has been made (R144). Each removes a request, so `fuel` bounds them. -/
def State.allocateFuel : Nat → State → State
  | 0, s => s
  | fuel + 1, s =>
    let p := s.plan
    if p.anyMissing s.store then (s.carryOut p).allocateFuel fuel else s.carryOut p

/-- An allocation occasion (R144). -/
def State.allocate (s : State) : State := s.allocateFuel (s.tones.requests.length + 1)

/-- An occasion when the effective limit is no longer `before` (R143). -/
def State.allocateIfLimitChanged (s : State) (before : Nat) : State :=
  if s.voiceLimit = before then s else s.allocate

/-! ### The changes of the list (R140) -/

/-- A request takes the next arrival number and joins the list at the tail, in place of the one its source held
(R139, R140). A playing sound it joins is given its passes (R152). The occasion is still to be taken. -/
def State.enlist (s : State) (src : Source) (kind : RequestKind) (pattern : PatternId) (rule : PassRule)
    (priority : Option (Fin 4)) : State :=
  let r : Request :=
    { source := src, kind := kind, pattern := pattern, rule := rule, priority := priority, arrival := s.tones.arrival }
  { s with
    tones :=
      { s.tones with
        requests := (s.tones.requests.filter fun q => q.source ≠ src) ++ [r]
        arrival := s.tones.arrival + 1 }
    voices := s.voices.map fun v => v.map fun p => if p.sound = r.sound then p.join else p }

/-- A posting, a replacement or a refresh, with its occasion (R139, R140, R156). -/
def State.post (s : State) (src : Source) (kind : RequestKind) (pattern : PatternId) (rule : PassRule)
    (priority : Option (Fin 4)) : State := (s.enlist src kind pattern rule priority).allocate

/-- A source's request is taken out of the list; nothing is done when it holds none (R140). -/
def State.withdraw (s : State) (src : Source) : State :=
  if s.holdsRequest src then
    State.allocate
      { s with tones := { s.tones with requests := s.tones.requests.filter fun q => q.source ≠ src } }
  else s

end Sys2Proof.Machine
end

