-- ==== Sys2Proof/Machine/SupplyGuard.lean ====
section
/-! DEFINITION. The Supply Guard (chapter 9). -/

namespace Sys2Proof.Machine

/-- The condition of the first transition leaving a supply state on a sample of level `v` (the table of R171). -/
def Supply.meets1 (u : Supply) (v : BitVec 4) : Bool :=
  match u.state with
  | .ok => decide (v.toNat ≤ u.ecolv.toNat)
  | .economy => decide (u.ecolv.toNat + u.echys.toNat ≤ v.toNat)
  | .blackout => decide (3 ≤ v.toNat)

/-- The condition of the second; BLACKOUT has none. -/
def Supply.meets2 (u : Supply) (v : BitVec 4) : Bool :=
  match u.state with
  | .ok | .economy => decide (v.toNat ≤ 1)
  | .blackout => false

/-- The target of the first transition; the second leads to BLACKOUT. -/
def SupplyState.target1 : SupplyState → SupplyState
  | .ok => .economy
  | .economy => .ok
  | .blackout => .economy

/-- The guard with the counts a sample leaves: each rises, or returns to 0 (R171). -/
def Supply.counted (u : Supply) (v : BitVec 4) : Supply :=
  { u with
    last := v
    sampleDue := false
    count1 := if u.meets1 v then u.count1 + 1 else 0
    count2 := if u.meets2 v then u.count2 + 1 else 0 }

/-- The state a sample moves the guard to, if a count has reached 3; BLACKOUT before ECONOMY (R171, R172). -/
def Supply.moves (u : Supply) : Option SupplyState :=
  if Config.supplyCount ≤ u.count2 then some .blackout
  else if Config.supplyCount ≤ u.count1 then some u.state.target1
  else none

/-- A change of supply state (R173). -/
def State.supplyChange (s : State) (dest : SupplyState) : State :=
  let t := { s with supply := { s.supply with state := dest, count1 := 0, count2 := 0 } }
  ((t.record .supply none 0 (dest.code + field 4 t.supply.last.toNat)).setCause .supply).allocateIfLimitChanged
    s.voiceLimit

/-- A sample of VDRV, when it is due (R169, R171; log 3). -/
def supplySampleStep (s : State) : State :=
  if s.supply.sampleDue then
    let t := { s with supply := s.supply.counted s.pins.vdrv }
    match t.supply.moves with
    | none => t
    | some dest => t.supplyChange dest
  else s

/-- SUPPLY_SAMPLE (R169). -/
def execSupplySample (s : State) : Out := ran supplySampleStep s

end Sys2Proof.Machine
end

