-- ==== Sys2Proof/Machine/Groups.lean ====
section
/-! DEFINITION. First-out groups: marks, capture, rearm and the REARM command (chapter 3). -/

namespace Sys2Proof.Machine

/-- A point joins a group's first-out set: its mark, and a GROUP_CAPTURE record (R53, R54). -/
def State.joinFirstOut (s : State) (p : PointId) (g : GroupId) (n : Half) (tie : Bool) : State :=
  (s.modSeq p fun a => { a with mark := .first }).record .groupCapture (some p) (g + field 3 (bit tie))
    (n.toNat % 256)

/-- The Group Table assigns a mark to a point for an alarm that carries scan number `n` (the table of R53). -/
def State.assignMark (s : State) (p : PointId) (n : Half) : State :=
  match (s.point p).cfg.group with
  | none => s
  | some g =>
    let r := s.group g
    if !r.captured then
      (s.setGroup g { captured := true, captureScan := n }).joinFirstOut p g n false
    else if r.captureScan = n then
      if (s.point p).seq.mark = .first then s else s.joinFirstOut p g n true
    else if (s.point p).seq.mark = .none then s.modSeq p fun a => { a with mark := .subsequent }
    else s

/-- An alarm with scan number `n` would make a GROUP_CAPTURE record of the point: it joins a first-out set, and the
GROUP category is logged (R53, R54, R181). -/
def State.logsCapture (s : State) (p : PointId) (n : Half) : Bool :=
  !s.evq.masked .groupCapture &&
  match (s.point p).cfg.group with
  | none => false
  | some g =>
    !(s.group g).captured || decide ((s.group g).captureScan = n) && decide ((s.point p).seq.mark ≠ .first)

/-- The marks of a group are set to NONE (R59, steps 1 and 2). -/
def State.clearMarks (s : State) (g : GroupId) : State :=
  { s with points := s.points.map fun x =>
      if x.cfg.group = some g then { x with seq := { x.seq with mark := .none } } else x }

/-- The number of marked points of a group: the first-out set and the subsequent count (R50, R60). -/
def State.markCount (s : State) (g : GroupId) : Nat :=
  (s.marked g .first).length + (s.marked g .subsequent).length

/-- A GROUP_REARM record (R60). -/
def State.rearmRecord (s : State) (g : GroupId) (trigger : Option PointId) (command : Bool) (count : Nat) :
    State :=
  s.record .groupRearm trigger (g + field 3 (bit command)) count

/-- The rearm of a group (R59). -/
def State.rearm (s : State) (g : GroupId) (trigger : Option PointId) (command : Bool) : State :=
  ((s.clearMarks g).setGroup g .opened).rearmRecord g trigger command (s.markCount g)

/-- Every member of a group is in NORMAL (R58). -/
def State.allNormal (s : State) (g : GroupId) : Bool :=
  allPoints.all fun p => !s.member g p || decide ((s.point p).seq.state = .normal)

/-- The automatic rearm check a point's entry to NORMAL asks for (R58). -/
def State.rearmCheck (s : State) (p : PointId) : State :=
  match (s.point p).cfg.group with
  | none => s
  | some g => if (s.group g).captured && s.allNormal g then s.rearm g (some p) false else s

/-- The REARM command for the selected group (R61). -/
def rearmCommand (s : State) : State :=
  if s.ctl.state ≠ .active then s.refuseCommand .gcmd .wrongState
  else if (s.group s.gsel).captured then s.rearm s.gsel none true
  else s.rearmRecord s.gsel none true 0

/-- REARM (R61). -/
def execRearm (s : State) : Out := ran rearmCommand s

end Sys2Proof.Machine
end

