-- ==== Sys2Proof/Machine/Sequence.lean ====
section
/-! DEFINITION. The annunciation sequence of a point (chapter 2): the table of R23, the effects of leaving
and entering states, and the indication. -/

namespace Sys2Proof.Machine

/-- The four events that reach a sequence. -/
inductive SeqEvent where
  | alarm | return | ack | reset
  deriving DecidableEq, Repr

/-- What the table of R23 gives for an event. -/
inductive Move where
  | stay
  | reannounce
  | go (dest : SeqState)
  deriving DecidableEq, Repr

/-- The table of R23. Where it says "does not arise" the model stays (DESIGN CHOICE, safe; log 12). -/
def nextMove (c : AlarmClass) (st : SeqState) (ev : SeqEvent) (active : Bool) : Move :=
  match st, ev with
  | .normal, .alarm => .go .alarmUnack
  | .normal, .return => .stay
  | .normal, .ack => .stay
  | .normal, .reset => .stay
  | .alarmUnack, .alarm => if c = .n then .stay else .reannounce
  | .alarmUnack, .return => if c = .n then .go .normal else .stay
  | .alarmUnack, .ack =>
    if active then .go .alarmAck
    else match c with
      | .n => .stay
      | .l => .go .normal
      | .m => .go .alarmAck
      | .r => .go .returnUnack
  | .alarmUnack, .reset => .stay
  | .alarmAck, .alarm => .stay
  | .alarmAck, .return =>
    match c with
    | .n => .go .normal
    | .l => .go .normal
    | .m => .stay
    | .r => .go .returnUnack
  | .alarmAck, .ack => .stay
  | .alarmAck, .reset => if c = .m ∧ !active then .go .normal else .stay
  | .returnUnack, .alarm => if c = .r then .go .alarmUnack else .stay
  | .returnUnack, .return => .stay
  | .returnUnack, .ack => .stay
  | .returnUnack, .reset => if c = .r then .go .normal else .stay

/-! ### Requests of a point (R25) -/

/-- An ALARM request joins the list if the point has an alarm pattern. -/
def State.enlistAlarm (s : State) (p : PointId) : State :=
  match (s.point p).cfg.alarmPattern with
  | none => s
  | some t => s.enlist (.point p) .alarm t .header (some (s.point p).cfg.priority)

/-- The allocation occasion of the posting of an ALARM request (R140). -/
def State.alarmOccasion (s : State) (p : PointId) : State :=
  if (s.point p).cfg.alarmPattern.isSome then s.allocate else s

/-- A RINGBACK request is posted if the point has a ringback pattern. -/
def State.postRingback (s : State) (p : PointId) : State :=
  match (s.point p).cfg.ringbackPattern with
  | none => s
  | some t => s.post (.point p) .ringback t .header (some (s.point p).cfg.priority)

/-! ### Records of the sequence (R32) -/

/-- The outcomes of an ALARM or RETURN record (R32). -/
inductive SeqOutcome where
  | entered | reannounced | noChange | shelved
  deriving DecidableEq, Repr

def SeqOutcome.code : SeqOutcome → Nat
  | .entered => 0 | .reannounced => 1 | .noChange => 2 | .shelved => 3

/-- An ALARM or RETURN record: outcome, and the state and the mark after the event (R32). -/
def State.seqRecord (s : State) (p : PointId) (k : Kind) (o : SeqOutcome) : State :=
  s.record k (some p) 0 (o.code + field 2 (s.point p).seq.state.code + field 4 (s.point p).seq.mark.code)

/-! ### Leaving and entering -/

/-- The effects of leaving ALARM_UNACK or RETURN_UNACK (R28). `reposts`: the new state posts a request of its
own, so that the withdrawal is part of that replacement (R24). -/
def State.leave (s : State) (p : PointId) (reposts : Bool) : State :=
  match (s.point p).seq.state with
  | .alarmUnack | .returnUnack =>
    (if reposts then s else s.withdraw (.point p)).modSeq p fun a => { a with silenced := false }
  | .normal | .alarmAck => s

/-- What entry to ALARM_UNACK and re-announcement share: alarm time, flags, mark, ALARM request, ALARM record
and ALARM cause, in that order (R26, R27). The ALARM record directly follows a GROUP_CAPTURE record (R54): where one
is made, the occasion of the request's posting, with its PATTERN_MISSING records (R140, R153), is taken after the ALARM
record, within the same event; in every other case it is taken at the posting (DESIGN CHOICE, unsafe; log 29). -/
def State.announce (s : State) (p : PointId) (n : Half) (o : SeqOutcome) : State :=
  let t := ((s.modSeq p fun a =>
      { a with state := .alarmUnack, alarmTime := s.time.clock, silenced := false, toneDone := false }).assignMark
    p n).enlistAlarm p
  (if s.logsCapture p n then (t.seqRecord p .alarm o).alarmOccasion p
    else (t.alarmOccasion p).seqRecord p .alarm o).setCause .alarm

/-- Entry to ALARM_UNACK for an alarm that carries scan number `n` (R26). -/
def State.enterAlarmUnack (s : State) (p : PointId) (n : Half) : State :=
  (s.leave p (s.point p).cfg.alarmPattern.isSome).announce p n .entered

/-- Re-announcement (R27): ALARM_UNACK is not left. -/
def State.reannounce (s : State) (p : PointId) (n : Half) : State := s.announce p n .reannounced

/-- Entry to ALARM_ACK (R29). -/
def State.enterAlarmAck (s : State) (p : PointId) : State :=
  (s.leave p false).modSeq p fun a => { a with state := .alarmAck }

/-- A RETURN record where the entry is by return qualifies (R30, R31). -/
def State.returnRecord (s : State) (p : PointId) (byReturn : Bool) : State :=
  if byReturn then s.seqRecord p .return .entered else s

/-- Entry to RETURN_UNACK (R30). -/
def State.enterReturnUnack (s : State) (p : PointId) (byReturn : Bool) : State :=
  (((((s.leave p (s.point p).cfg.ringbackPattern.isSome).modSeq p fun a =>
      { a with state := .returnUnack, toneDone := false }).postRingback p).returnRecord p byReturn).setCause .return)

/-- Entry to NORMAL (R31). -/
def State.enterNormal (s : State) (p : PointId) (byReturn : Bool) : State :=
  (((((s.leave p false).modSeq p fun a =>
      { a with state := .normal, toneDone := false }).returnRecord p byReturn).setCause .return).rearmCheck p)

/-- A point takes a move for an event; `n` is the scan number an alarm carries (R24). -/
def State.takeMove (s : State) (p : PointId) (m : Move) (ev : SeqEvent) (n : Half) : State :=
  match m with
  | .stay => s
  | .reannounce => s.reannounce p n
  | .go .alarmUnack => s.enterAlarmUnack p n
  | .go .alarmAck => s.enterAlarmAck p
  | .go .returnUnack => s.enterReturnUnack p (ev = .return)
  | .go .normal => s.enterNormal p (ev = .return)

/-- The move of a point for an event, by its class, state and condition. -/
def Point.move (x : Point) (ev : SeqEvent) : Move := nextMove x.cfg.cls x.seq.state ev x.qual.active

/-- Alarm qualifies, carrying scan number `n`, is applied to a point's sequence (R23, R32, R44). -/
def State.applyAlarm (s : State) (p : PointId) (n : Half) : State :=
  let x := s.point p
  if x.seq.shelf ≠ .none then s.seqRecord p .alarm .shelved
  else
    match x.move .alarm with
    | .stay => s.seqRecord p .alarm .noChange
    | m => s.takeMove p m .alarm n

/-- Return qualifies is applied to a point's sequence (R23, R32, R44). -/
def State.applyReturn (s : State) (p : PointId) : State :=
  let x := s.point p
  if x.seq.shelf ≠ .none then s.seqRecord p .return .shelved
  else
    match x.move .return with
    | .stay => s.seqRecord p .return .noChange
    | m => s.takeMove p m .return s.scan.number

/-! ### Indication (R37) -/

inductive Indication where
  | off | steady | fast | slow | double | wink
  deriving DecidableEq, Repr

/-- The indication of a point: a disabled or shelved point shows OFF (R37). -/
def Point.indication (x : Point) : Indication :=
  if !x.cfg.enabled || decide (x.seq.shelf ≠ .none) then .off
  else
    match x.seq.state, x.seq.mark with
    | .normal, _ => .off
    | .alarmUnack, .first => .double
    | .alarmUnack, _ => .fast
    | .alarmAck, .first => .wink
    | .alarmAck, _ => .steady
    | .returnUnack, _ => .slow

end Sys2Proof.Machine
end

