-- ==== Sys2Proof/Machine/Points.lean ====
section
/-! DEFINITION. Alarm points: scanning and qualification (chapter 1), the point window, and shelving
(chapter 2). -/

namespace Sys2Proof.Machine

/-! ### Qualification -/

/-- The two events by which a condition changes. -/
inductive QualEvent where
  | alarm | return
  deriving DecidableEq, Repr

/-- The sample of a point is abnormal: the pin level equals its alarm level (R10). -/
def PointConfig.abnormalSample (c : PointConfig) (high : Bool) : Bool :=
  match c.alarmLevel with
  | .low => !high
  | .high => high

/-- A change of the field state starts or cancels the delay (the table of R12). -/
def Qual.flip (q : Qual) (now : Clock) : Qual :=
  { q with
    abnormal := !q.abnormal
    agreement := 0
    timer := match !q.abnormal, q.active with
      | true, false => .running .onDelay now
      | true, true => .idle
      | false, true => .running .offDelay now
      | false, false => .idle }

/-- Debounce (R11). -/
def Qual.debounced (q : Qual) (c : PointConfig) (sample : Bool) (now : Clock) : Qual :=
  if sample = q.abnormal then { q with agreement := 0 }
  else if q.agreement + 1 = c.debounce then q.flip now
  else { q with agreement := q.agreement + 1 }

/-- The examination of a running delay (R13, R14). -/
def Qual.examined (q : Qual) (c : PointConfig) (now : Clock) : Qual × Option QualEvent :=
  match q.timer with
  | .running .onDelay t =>
    if c.onDelay.toNat * 10 ≤ elapsed now t then ({ q with active := true, timer := .idle }, some .alarm)
    else (q, none)
  | .running .offDelay t =>
    if c.offDelay.toNat * 10 ≤ elapsed now t then ({ q with active := false, timer := .idle }, some .return)
    else (q, none)
  | .idle | .frozen _ _ => (q, none)

/-- One scan of one point: a disabled point's sample is discarded (R6, R10 to R14). -/
def Point.scanned (x : Point) (high : Bool) (now : Clock) : Qual × Option QualEvent :=
  if x.cfg.enabled then
    (x.qual.debounced x.cfg (x.cfg.abnormalSample high) now).examined x.cfg now
  else (x.qual, none)

/-- What the scan of the present tick makes of a point. -/
def State.scanOf (s : State) (p : PointId) : Qual × Option QualEvent :=
  (s.point p).scanned (s.pins.inputs.getLsbD p) s.time.clock

/-- A scan is due: the scan period has been counted (R8). -/
def State.scanDue (s : State) : Bool :=
  (decide (s.ctl.state = .arming) || decide (s.ctl.state = .active)) &&
  match s.scan.count with
  | none => false
  | some n => decide (s.scan.period.ticks ≤ n)

/-- The scan that is due is the settle-end scan (R192). -/
def State.settleEndDue (s : State) : Bool :=
  s.scanDue && decide (s.ctl.state = .arming) &&
  match s.ctl.settleStart with
  | none => false
  | some t => decide (s.ctl.setl.toNat * 100 ≤ elapsed s.time.clock t)

/-- Every point's qualification state as a scan leaves it. -/
def State.scannedPoints (s : State) : Vector Point 32 :=
  Vector.ofFn fun p : PointId => { s.point p with qual := (s.scanOf p).1 }

/-- The scan of all points: the scan number advances and the period count begins anew (R8, R9, R10). -/
def State.takeScan (s : State) : State :=
  { s with
    scan := { s.scan with count := some 0, number := s.scan.number + 1 }
    points := s.scannedPoints }

/-- A qualification event is handed to its point's sequence (R15). -/
def State.handOn (s : State) (p : PointId) : Option QualEvent → State
  | none => s
  | some .alarm => s.applyAlarm p s.scan.number
  | some .return => s.applyReturn p

/-- A scan: in ACTIVE its events are handed on, in ARMING not (R15). A SCAN that is not due is no event of the
part and changes nothing (DESIGN CHOICE, safe; log 3). -/
def scanStep (order : List PointId) (s : State) : State :=
  if s.scanDue && !s.settleEndDue then
    if s.ctl.state = .active then
      (inOrder order allPoints).foldl (fun t p => t.handOn p (s.scanOf p).2) s.takeScan
    else s.takeScan
  else s

/-- SCAN (R10). -/
def execScan (order : List PointId) (s : State) : Out := ran (scanStep order) s

/-! ### The settle-end scan (R192) -/

/-- A standing point under quiet start: ALARM_ACK directly, and a STANDING record. -/
def State.standing (s : State) (p : PointId) : State :=
  (s.modSeq p fun a => { a with state := .alarmAck }).record .standing (some p) 0 (s.scan.number.toNat % 256)

/-- A point is dealt with at the settle-end scan, if it is enabled and its condition is ACTIVE. -/
def State.settlePoint (s : State) (p : PointId) : State :=
  if (s.point p).cfg.enabled && (s.point p).qual.active then
    if s.ctl.quietStart then s.standing p else s.applyAlarm p s.scan.number
  else s

/-- Steps 3 to 5 of R192: ACTIVE, its record, and the rise of the limit. -/
def State.enterActive (s : State) : State :=
  let t := ({ s with ctl := { s.ctl with state := .active, settleStart := none } }).controllerRecord .arming .settleEnd
  t.allocateIfLimitChanged s.voiceLimit

/-- The settle-end scan, when it is due (R192; log 3). -/
def settleEndStep (s : State) : State :=
  if s.settleEndDue then (allPoints.foldl State.settlePoint s.takeScan).enterActive else s

/-- SETTLE_END (R192). -/
def execSettleEnd (s : State) : Out := ran settleEndStep s

/-! ### Shelving -/

/-- The shelf that SHDUR names: 0 is indefinite (R40, R42). -/
def shelfOf (shdur : Half) : Shelf := if shdur = 0 then .indefinite else .finite shdur.toNat 0

/-- The SHELVE record: kind of shelf, restart, state left (R42). -/
def State.shelveRecord (s : State) (p : PointId) (restart : Bool) (left : SeqState) : State :=
  s.record .shelve (some p) 0 (bit (s.window.shdur = 0) + field 1 (bit restart) + field 2 left.code)

/-- SHELVE taken for an unshelved point (R42). -/
def State.shelvePoint (s : State) (p : PointId) : State :=
  let left := (s.point p).seq.state
  let t := ((s.withdraw (.point p)).modSeq p fun a =>
      { a with state := .normal, mark := .none, silenced := false, toneDone := false, shelf := shelfOf s.window.shdur }).shelveRecord
    p false left
  if left = .normal then t else (t.setCause .return).rearmCheck p

/-- SHELVE taken for a shelved point restarts its shelf (R43). -/
def State.restartShelf (s : State) (p : PointId) : State :=
  (s.modSeq p fun a => { a with shelf := shelfOf s.window.shdur }).shelveRecord p true .normal

/-- The checks of PCMD (R41). -/
def State.pointCommand (s : State) (f : State → State) : State :=
  if s.ctl.state ≠ .active then s.refuseCommand .pcmd .wrongState
  else if !(s.point s.window.psel).cfg.enabled then s.refuseCommand .pcmd .disabledPoint
  else f s

/-- The SHELVE command (R41 to R43). -/
def shelveCommand (s : State) : State :=
  s.pointCommand fun s =>
    if (s.point s.window.psel).seq.shelf = .none then s.shelvePoint s.window.psel
    else s.restartShelf s.window.psel

/-- SHELVE (R42). -/
def execShelve (s : State) : Out := ran shelveCommand s

/-- A standing alarm is applied at unshelving, with the number of the most recent scan (R48). -/
def State.unshelveAlarm (s : State) (p : PointId) : State :=
  if (s.point p).qual.active then s.applyAlarm p s.scan.number else s

/-- The point becomes not shelved (R46, R47). -/
def State.unshelve (s : State) (p : PointId) : State := s.modSeq p fun a => { a with shelf := .none }

/-- An UNSHELVE record (R46, R47). -/
def State.unshelveRecord (s : State) (p : PointId) (expiry : Bool) : State :=
  s.record .unshelve (some p) 0 (bit expiry)

/-- The UNSHELVE command (R41, R47); ignored for a point that is not shelved. -/
def unshelveCommand (s : State) : State :=
  s.pointCommand fun s =>
    if (s.point s.window.psel).seq.shelf = .none then s
    else ((s.unshelve s.window.psel).unshelveRecord s.window.psel false).unshelveAlarm s.window.psel

/-- UNSHELVE (R47). -/
def execUnshelve (s : State) : Out := ran unshelveCommand s

/-- One tick of a shelf (R45). -/
def Shelf.tick : Shelf → Shelf
  | .none => .none
  | .indefinite => .indefinite
  | .finite seconds ms => if ms + 1 < 1000 then .finite seconds (ms + 1) else .finite (seconds - 1) 0

/-- A finite shelf's remaining seconds have reached 0 (R45). -/
def Shelf.expired : Shelf → Bool
  | .finite 0 _ => true
  | _ => false

/-- The expiry of a shelf, when it is due in ACTIVE (R46; log 3). -/
def shelfExpiryStep (p : PointId) (s : State) : State :=
  if decide (s.ctl.state = .active) && (s.point p).seq.shelf.expired then
    (((s.unshelve p).setCause .shelfexp).unshelveRecord p true).unshelveAlarm p
  else s

/-- SHELF_EXPIRY (R46). -/
def execShelfExpiry (p : PointId) (s : State) : Out := ran (shelfExpiryStep p) s

/-! ### Writes of the point window -/

/-- A write of PSEL (R1). -/
def writePsel (v : Byte) (s : State) : State :=
  if h : v.toNat < 32 then
    ({ s with window := { s.window with psel := ⟨v.toNat, h⟩ } }).reloadStaging
  else s.refuse .psel .badValue

/-- PSEL_WRITE (R1). -/
def execPselWrite (v : Byte) (s : State) : Out := ran (writePsel v) s

/-- The twelve bits of a delay, joined from its staging byte and its last byte (R4). -/
def delayOf (staging v : Byte) : BitVec 12 := BitVec.ofNat 12 (staging.toNat + bits v 0 4 * 256)

/-- A write of a configuration byte that has passed the lock of R3, checked field by field (R3, R4). -/
def State.writePcfByte (s : State) (i : Fin 9) (v : Byte) : State :=
  let p := s.window.psel
  match i with
  | 0 => s.modCfg p fun c =>
      { c with
        enabled := bits v 0 1 = 1
        alarmLevel := if bits v 1 1 = 1 then .high else .low
        debounceLess1 := BitVec.ofNat 3 (bits v 2 3)
        cls := .ofCode (bits v 5 2) }
  | 1 =>
    match patternOfCode (bits v 0 6) with
    | none => s.refuse (.pcf 1) .badValue
    | some t => s.modCfg p fun c => { c with ringbackPattern := t, priority := Fin.ofNat 4 (bits v 6 2) }
  | 2 => { s with window := { s.window with onStaging := v } }
  | 3 => s.modCfg p fun c => { c with onDelay := delayOf s.window.onStaging v }
  | 4 => { s with window := { s.window with offStaging := v } }
  | 5 => s.modCfg p fun c => { c with offDelay := delayOf s.window.offStaging v }
  | 6 =>
    match patternOfCode (bits v 0 6) with
    | none => s.refuse (.pcf 6) .badValue
    | some t => s.modCfg p fun c => { c with alarmPattern := t }
  | 7 => { s with window := { s.window with reminderStaging := byte (bits v 0 6) } }
  | 8 =>
    match reminderOfCodes (bits v 0 3) s.window.reminderStaging.toNat, groupOfCode (bits v 3 4) with
    | some r, some g =>
      let t := s.modCfg p fun c => { c with reminder := r, group := g }
      { t with window := { t.window with reminderStaging := byte (reminderOffset r) } }
    | _, _ => s.refuse (.pcf 8) .badValue

/-- A write of PCF0 to PCF8: LOCKED outside SETUP (R3). -/
def writePcf (i : Fin 9) (v : Byte) (s : State) : State :=
  if s.ctl.state = .setup then s.writePcfByte i v else s.refuse (.pcf i) .locked

/-- PCF_WRITE (R3). -/
def execPcfWrite (i : Fin 9) (v : Byte) (s : State) : Out := ran (writePcf i v) s

/-- A write of a SHDUR byte (R40). -/
def writeShdur (h : WhichByte) (v : Byte) (s : State) : State :=
  match h with
  | .low => { s with window := { s.window with shdurStaging := v } }
  | .high => { s with window := { s.window with shdur := v ++ s.window.shdurStaging } }

/-- SHDUR_WRITE (R40). -/
def execShdurWrite (h : WhichByte) (v : Byte) (s : State) : Out := ran (writeShdur h v) s

end Sys2Proof.Machine
end

