-- ==== Sys2Proof/Machine/Panel.lean ====
section
/-! DEFINITION. Operator actions, the panel buttons and the panel tests (chapter 4). -/

namespace Sys2Proof.Machine

/-! ### Applying an action (R73, R74) -/

/-- An enabled point in the scope of an action (R73). -/
def State.inScope (s : State) (c : Scope) (p : PointId) : Bool :=
  match c with
  | .all => (s.point p).cfg.enabled
  | .group g => s.member g p
  | .point q => (s.point p).cfg.enabled && decide (p = q)

/-- An action's part at one point: the state after it, and whether the point is counted. -/
abbrev PointPart := State → PointId → State × Bool

/-- One point of an action: a point out of scope is passed over. -/
def actOn (c : Scope) (f : PointPart) (sn : State × Nat) (p : PointId) : State × Nat :=
  if sn.1.inScope c p then ((f sn.1 p).1, sn.2 + bit (f sn.1 p).2) else sn

/-- An action is applied to the points in its scope, in ascending number; the count of points changed (R73). -/
def State.applyToScope (s : State) (c : Scope) (f : PointPart) : State × Nat := allPoints.foldl (actOn c f) (s, 0)

/-- An ACTION record (R74). -/
def State.actionRecord (s : State) (a : Action) (src : ActionSource) (c : Scope) (count : Nat) : State :=
  s.record .action c.pointPart (a.code + field 3 c.kindCode + field 5 src.code) count

/-- A panel action sets the ACTION cause; no other does (R70, R72). -/
def State.actionCause (s : State) (src : ActionSource) : State :=
  if src = .panel then s.setCause .action else s

/-- The age of a point's alarm meets the acknowledge guard (R76). -/
def State.guardMet (s : State) (p : PointId) : Bool :=
  decide (s.panel.agrd.toNat * 10 ≤ elapsed s.time.clock (s.point p).seq.alarmTime)

/-- A point takes the move R23 gives for an action's event, and is counted if its state changes. -/
def State.actionMove (s : State) (p : PointId) (ev : SeqEvent) : State × Bool :=
  match (s.point p).move ev with
  | .stay => (s, false)
  | m => (s.takeMove p m ev s.scan.number, true)

/-- ACK at one point (R76). -/
def ackPoint : PointPart := fun s p =>
  if (s.point p).seq.state = .alarmUnack ∧ s.guardMet p then s.actionMove p .ack else (s, false)

/-- SILENCE at one point (R77). -/
def silencePoint : PointPart := fun s p =>
  let x := s.point p
  if x.seq.state = .alarmUnack ∨ x.seq.state = .returnUnack then
    ((s.withdraw (.point p)).modSeq p fun a => { a with silenced := true },
      !x.seq.silenced || s.holdsRequest (.point p))
  else (s, false)

/-- RESET at one point (R80). -/
def resetPoint : PointPart := fun s p => s.actionMove p .reset

/-- An action on the points of a scope, with its ACTION record after the last point (R73, R74). -/
def State.pointAction (s : State) (a : Action) (f : PointPart) (src : ActionSource) (c : Scope) : State :=
  let r := s.applyToScope c f
  (r.1.actionRecord a src c r.2).actionCause src

/-! ### Panel tests (R81 to R87) -/

/-- A test begins, or a party joins a running one (R82, R83). -/
def State.testStart (s : State) (panel : Bool) : State :=
  let t := s.panel.test
  let src : ActionSource := if panel then .panel else .host
  let press := if panel then s.time.clock else t.press
  if t.state = .idle then
    (({ s with panel := { s.panel with test :=
        { state := .lampTest, start := s.time.clock, panelParty := panel, press := press, hostParty := !panel } } }).actionRecord
      .testStart src .all s.enabledCount).actionCause src
  else
    (({ s with panel := { s.panel with test :=
        { t with panelParty := t.panelParty || panel, press := press, hostParty := t.hostParty || !panel } } }).actionRecord
      .testStart src .all 0).actionCause src

/-- The ways a running test ends (R85). -/
inductive TestEnding where
  | release | hostEnd | expiry | departure
  deriving DecidableEq, Repr

/-- The record of a test's end (R85, R86, R87); `t` is the test that ended. -/
def State.testEndRecord (s : State) (how : TestEnding) (t : TestRecord) : State :=
  match how with
  | .release => s.actionRecord .testEnd .panel .all s.enabledCount
  | .hostEnd => s.actionRecord .testEnd .host .all s.enabledCount
  | .expiry => s.record .testTimeout none 0 (bit t.panelParty + field 1 (bit t.hostParty))
  | .departure => s.actionRecord .testEnd .internal .all s.enabledCount

/-- The HORNTEST request goes, if the horn test has joined (R85, step 1). -/
def State.withdrawHorn (s : State) : State :=
  if s.panel.test.state = .lampAndHornTest then s.withdraw .horntest else s

/-- The test record of an ended test: IDLE with no party, so that a held press is spent (R85, steps 2 and 3). -/
def TestRecord.ended (t : TestRecord) : TestRecord :=
  { t with state := .idle, panelParty := false, hostParty := false }

/-- The end of a running test (R85). -/
def State.testEnd (s : State) (how : TestEnding) : State :=
  let w := s.withdrawHorn
  let t := (({ w with panel := { w.panel with test := s.panel.test.ended } }).testEndRecord how s.panel.test).setCause
    .testend
  if how = .release then t.setCause .action else t

/-- A running test ends as the controller leaves ACTIVE (R87). -/
def State.leaveActive (s : State) : State :=
  if s.ctl.state = .active ∧ s.panel.test.state ≠ .idle then s.testEnd .departure else s

/-- A TEST_END from the host: while IDLE it leaves an ACTION record alone (R85). -/
def State.hostTestEnd (s : State) : State :=
  if s.panel.test.state = .idle then s.actionRecord .testEnd .host .all 0 else s.testEnd .hostEnd

/-- The horn test's time has come (R84). -/
def State.hornDue (s : State) : Bool :=
  decide (s.panel.test.state = .lampTest) && s.panel.test.panelParty &&
  decide (Config.hornDelay ≤ elapsed s.time.clock s.panel.test.press)

/-- The horn test begins, when it is due (R84, R158; log 3). -/
def hornTestStep (s : State) : State :=
  if s.hornDue then
    ({ s with panel := { s.panel with test := { s.panel.test with state := .lampAndHornTest } } }).post
      .horntest .horntest s.tones.htpat .loop none
  else s

/-- HORN_TEST_BEGIN (R84). -/
def execHornTestBegin (s : State) : Out := ran hornTestStep s

/-- The 60 s limit of a running test has passed (R86). -/
def State.timeoutDue (s : State) : Bool :=
  decide (s.panel.test.state ≠ .idle) && decide (Config.testLimit ≤ elapsed s.time.clock s.panel.test.start)

/-- A test expires, when it is due (R86; log 3). -/
def testTimeoutStep (s : State) : State := if s.timeoutDue then s.testEnd .expiry else s

/-- TEST_TIMEOUT (R86). -/
def execTestTimeout (s : State) : Out := ran testTimeoutStep s

/-! ### The action register (R72) -/

/-- The effect of an accepted host action (R72, R73). -/
def State.hostAction (s : State) : Action → State
  | .ack => s.pointAction .ack ackPoint .host s.panel.ascp
  | .silence => s.pointAction .silence silencePoint .host s.panel.ascp
  | .reset => s.pointAction .reset resetPoint .host s.panel.ascp
  | .testStart => s.testStart false
  | .testEnd => s.hostTestEnd

/-- The scope is a disabled point (R72, check 3). -/
def State.scopeDisabled (s : State) : Bool :=
  match s.panel.ascp with
  | .point p => !(s.point p).cfg.enabled
  | .all | .group _ => false

/-- Check 3 of R72 is made for the action. -/
def Action.onPoints : Action → Bool
  | .ack | .silence | .reset => true
  | .testStart | .testEnd => false

/-- A write of an action code to ACTN (R72). -/
def actionCommand (a : Action) (s : State) : State :=
  if s.ctl.state ≠ .active then s.refuseCommand .actn .wrongState
  else if a.onPoints && s.scopeDisabled then s.refuseCommand .actn .disabledPoint
  else s.hostAction a

/-- ACK (R76). -/
def execAck (s : State) : Out := ran (actionCommand .ack) s

/-- SILENCE (R77). -/
def execSilence (s : State) : Out := ran (actionCommand .silence) s

/-- RESET (R80). -/
def execReset (s : State) : Out := ran (actionCommand .reset) s

/-- TEST_START (R82, R83). -/
def execTestStart (s : State) : Out := ran (actionCommand .testStart) s

/-- TEST_END (R85). -/
def execTestEnd (s : State) : Out := ran (actionCommand .testEnd) s

/-! ### Panel buttons (R66 to R70) -/

/-- One sample of one button: the filter after it (R66). -/
def ButtonFilter.sampled (f : ButtonFilter) (pressed : Bool) : ButtonFilter :=
  if pressed = f.pressed then { f with changes := 0 }
  else if f.changes + 1 = Config.buttonCount then { pressed := pressed, changes := 0 }
  else { f with changes := f.changes + 1 }

/-- A button's pin is low, that is pressed (R66). -/
def Pins.pressed (p : Pins) (b : Button) : Bool := !p.buttons.getLsbD b.index

def State.filter (s : State) (b : Button) : ButtonFilter := s.panel.filters[b.index]

/-- A button's filter after the sample of this tick. -/
def State.filterAfter (s : State) (b : Button) : ButtonFilter := (s.filter b).sampled (Pins.pressed s.pins b)

/-- A recognised press: taken in ACTIVE if the button is not locked, else spent (R67, R70). -/
def State.press (s : State) (b : Button) : State :=
  if s.ctl.state = .active ∧ s.panel.plock.getLsbD b.index = false then
    match b with
    | .ack => s.pointAction .ack ackPoint .panel .all
    | .sil => s.pointAction .silence silencePoint .panel .all
    | .rst => s.pointAction .reset resetPoint .panel .all
    | .tst => if s.panel.test.panelParty then s else s.testStart true
  else s

/-- A recognised release: that of the panel party's TST press ends the test, any other does nothing (R67, R85). -/
def State.releaseButton (s : State) (b : Button) : State :=
  match b with
  | .tst => if s.panel.test.panelParty then s.testEnd .release else s
  | .ack | .sil | .rst => s

/-- The filters after the sample of this tick. -/
def State.filtersAfter (s : State) : Vector ButtonFilter 4 :=
  Vector.ofFn fun i => s.panel.filters[i].sampled (!s.pins.buttons.getLsbD i)

/-- The change recognised at a button by the sample, if any, is acted on; `was` is the state before it. -/
def State.recognise (was s : State) (b : Button) : State :=
  if (was.filterAfter b).pressed = (was.filter b).pressed then s
  else if (was.filterAfter b).pressed then s.press b
  else s.releaseButton b

/-- The sample of the button pins, when it is due (R66; log 3). -/
def buttonSampleStep (order : List Button) (s : State) : State :=
  if s.panel.sampleDue then
    (inOrder order allButtons).foldl (State.recognise s)
      { s with panel := { s.panel with filters := s.filtersAfter, sampleDue := false } }
  else s

/-- BUTTON_SAMPLE (R66). -/
def execButtonSample (order : List Button) (s : State) : Out := ran (buttonSampleStep order) s

end Sys2Proof.Machine
end

