-- ==== Sys2Proof/Machine/Cadence.lean ====
section
/-! DEFINITION. The cadence and CSYNC: eighths, cycle starts and reminders, the leader's pulse, the
follower's pulses and misses, SROLE and TDIV (chapter 5). -/

namespace Sys2Proof.Machine

/-! ### Reminders (R78, R95) -/

/-- A reminder matches a cycle start whose counter value is `c` (R95). -/
def Reminder.matches (r : Reminder) (c : BitVec 6) : Bool :=
  decide (c.toNat % 2 ^ r.exponent.toNat = r.offset.toNat)

/-- A point posts a reminder at a cycle start of value `c` (R78). -/
def State.remindable (s : State) (c : BitVec 6) (p : PointId) : Bool :=
  let x := s.point p
  x.cfg.enabled && decide (x.seq.state = .alarmUnack) && x.seq.silenced &&
  (match x.cfg.reminder with
    | none => false
    | some r => r.matches c) &&
  x.cfg.alarmPattern.isSome && !s.holdsRequest (.point p)

/-- A REMINDER request is posted (R78). -/
def State.postReminder (s : State) (p : PointId) : State :=
  match (s.point p).cfg.alarmPattern with
  | none => s
  | some t => s.post (.point p) .reminder t .once (some (s.point p).cfg.priority)

/-- The points eligible at a cycle start in ACTIVE post one after the other, in ascending number (R78).
Which are eligible is decided before the first posts (DEDUCED from R79, unsafe; log 15). -/
def State.reminders (s : State) (c : BitVec 6) : State :=
  if s.ctl.state = .active then (allPoints.filter (s.remindable c)).foldl State.postReminder s else s

/-! ### Cycle starts (R94) -/

/-- The run-clock tick at which a pulse begun now ends (R97). -/
def State.pulseEnd (s : State) (c : BitVec 6) : Clock :=
  s.time.clock + BitVec.ofNat 32 (if c = 0 then Config.markerWidth else Config.pulseWidth)

/-- A cycle start with counter value `c`, the new eighth 0 having run for `into` ms (R94, R97). -/
def State.cycleStart (s : State) (c : BitVec 6) (into : Nat) : State :=
  ({ s with time :=
      { s.time with
        eighth := 0
        intoEighth := into
        eighthLen := s.time.elen
        cycle := c
        lineLowUntil := if s.time.role = Role.leader then some (s.pulseEnd c) else s.time.lineLowUntil } }).reminders c

/-- The sequencer is a FOLLOWER in LOCKED, whose eighth 7 does not end by its length (R100). -/
def Timebase.lockedFollower (t : Timebase) : Bool := decide (t.role = .follower) && decide (t.sync = .locked)

/-- The cadence runs in every controller state but INIT (R92). -/
def State.cadenceRuns (s : State) : Bool := decide (s.ctl.state ≠ .init)

/-- An eighth ends: its length is reached (R93; log 13). -/
def State.eighthDue (s : State) : Bool :=
  s.cadenceRuns && decide (s.time.eighthLen.toNat ≤ s.time.intoEighth) &&
  !(s.time.lockedFollower && decide (s.time.eighth = 7))

/-- The end of an eighth, when it is due (R93; log 3). -/
def eighthEndStep (s : State) : State :=
  if s.eighthDue then
    if s.time.eighth = 7 then s.cycleStart (s.time.cycle + 1) 0
    else
      { s with time :=
          { s.time with eighth := s.time.eighth + 1, intoEighth := 0, eighthLen := s.time.elen } }
  else s

/-- EIGHTH_END (R93). -/
def execEighthEnd (s : State) : Out := ran eighthEndStep s

/-- The LEADER's pulse has reached its tick of release (R97). -/
def State.releaseDue (s : State) : Bool := decide (s.time.lineLowUntil = some s.time.clock)

/-- The release of CSYNC, when it is due (R97; log 3). -/
def lineReleaseStep (s : State) : State :=
  if s.releaseDue then { s with time := { s.time with lineLowUntil := none } } else s

/-- LINE_RELEASE (R97). -/
def execLineRelease (s : State) : Out := ran lineReleaseStep s

/-! ### Following (R98 to R102) -/

/-- The reasons of a SYNC record (R102). -/
inductive SyncReason where
  | pulse | marker | misses
  deriving DecidableEq, Repr

def SyncReason.code : SyncReason → Nat
  | .pulse => 0 | .marker => 1 | .misses => 2

/-- A SYNC record and the SYNC cause (R102). -/
def State.syncRecord (s : State) (why : SyncReason) : State :=
  (s.record .sync none 0 (bit (s.time.sync = .locked) + field 1 why.code)).setCause .sync

/-- What a low time is recognised as (the table of R98). -/
inductive PulseKind where
  | pulse | marker | discarded
  deriving DecidableEq, Repr

def pulseKind (lowTime : Nat) : PulseKind :=
  if lowTime ≤ Config.pulseLongest then .pulse
  else if lowTime ≤ Config.markerLongest then .marker
  else .discarded

/-- A recognised pulse or marker ends the cycle (R99, R100): a cycle start, and for a FREE follower the lock with
its record. The record follows what the cycle start itself makes (DESIGN CHOICE, unsafe; log 14). -/
def State.takePulse (s : State) (lowTime : Nat) (marker : Bool) : State :=
  let c := if marker then 0 else s.time.cycle + 1
  let t := s.cycleStart c lowTime
  let u := { t with time := { t.time with sync := .locked, misses := 0 } }
  if s.time.sync = .free then u.syncRecord (if marker then .marker else .pulse) else u

/-- The low period ends and is taken from the line. -/
def State.clearLowRun (s : State) : State := { s with time := { s.time with lowRun := .none } }

/-- The end of a low period, when one has ended (R98 to R100; log 3). -/
def pulseStep (s : State) : State :=
  match s.time.lowRun with
  | .ended n =>
    match pulseKind n with
    | .pulse => s.clearLowRun.takePulse n false
    | .marker => s.clearLowRun.takePulse n true
    | .discarded => s.clearLowRun
  | .none | .counting _ | .discarded => s

/-- PULSE_RECOGNISED (R98 to R100). -/
def execPulseRecognised (s : State) : Out := ran pulseStep s

/-- The stretched eighth 7 of a LOCKED follower has lasted three eighth lengths (R100). -/
def State.missDue (s : State) : Bool :=
  s.cadenceRuns && s.time.lockedFollower && decide (s.time.eighth = 7) &&
  decide (3 * s.time.eighthLen.toNat ≤ s.time.intoEighth)

/-- The third consecutive miss loses the lock (R101, step 3). -/
def State.loseLock (s : State) : State :=
  if Config.missLimit ≤ s.time.misses then
    ({ s with time := { s.time with sync := .free, misses := 0 } }).syncRecord .misses
  else s

/-- A miss, when it is due (R101; log 3). -/
def missStep (s : State) : State :=
  if s.missDue then
    (({ s with time := { s.time with misses := s.time.misses + 1 } }).cycleStart (s.time.cycle + 1) 0).loseLock
  else s

/-- MISS (R101). -/
def execMiss (s : State) : Out := ran missStep s

/-- One sample of CSYNC by a FOLLOWER (R98). -/
def LowRun.sampled (r : LowRun) (high : Bool) : LowRun :=
  match r, high with
  | .none, true => .none
  | .none, false => .counting 1
  | .counting n, true => .ended n
  | .counting n, false => .counting (n + 1)
  | .discarded, true => .none
  | .discarded, false => .discarded
  | .ended _, true => .none
  | .ended _, false => .counting 1

/-! ### Writes of SROLE and TDIV -/

/-- An accepted write of SROLE (R96, R98). A low period is under way if the line was low at the last tick
(DEDUCED, unsafe; log 16). -/
def State.setRole (s : State) (r : Role) : State :=
  { s with time :=
      { s.time with
        role := r
        sync := .free
        misses := 0
        lineLowUntil := none
        lowRun := if s.pins.csync then .none else .discarded } }

/-- A write of SROLE (R96). -/
def writeSrole (v : Byte) (s : State) : State :=
  if s.ctl.state ≠ .setup then s.refuse .srole .locked
  else
    match Role.ofCode v.toNat with
    | none => s.refuse .srole .badValue
    | some r => s.setRole r

/-- SROLE_WRITE (R96). -/
def execSroleWrite (v : Byte) (s : State) : Out := ran (writeSrole v) s

/-- A write of a TDIV byte (R88). -/
def writeTdiv (h : WhichByte) (v : Byte) (s : State) : State :=
  if s.ctl.state ≠ .setup then s.refuse (.tdiv h) .locked
  else
    match h with
    | .low => { s with time := { s.time with tdivStaging := v } }
    | .high =>
      let d : Half := v ++ s.time.tdivStaging
      if d.toNat < 256 then s.refuse (.tdiv .high) .badValue
      else { s with time := { s.time with tdiv := d } }

/-- TDIV_WRITE (R88). -/
def execTdivWrite (h : WhichByte) (v : Byte) (s : State) : Out := ran (writeTdiv h v) s

end Sys2Proof.Machine
end

