-- ==== Sys2Proof/Machine/Transfers.lean ====
section
/-! DEFINITION. The Pattern Store's initialisation (chapter 6), and the Transfer Engine: the draft, requests,
their checks, the store accesses and the readback image (chapter 7). -/

namespace Sys2Proof.Machine

/-! ### Initialisation (R116, R117) -/

/-- The tick at which an initialisation writes its last record. -/
def InitKind.ticks : InitKind → Nat
  | .headers => Config.initHeaderTicks
  | .full => Config.initFullTicks

/-- The record an initialisation writes when the run clock reaches `n` (R116). -/
def Store.initWrite (st : Store) (n : Nat) : Store :=
  match st.init with
  | none => st
  | some k =>
    if n = 0 then st
    else if n ≤ Config.initHeaderTicks then { st with headers := st.headers.setIfInBounds (n - 1) none }
    else if k = .full then { st with steps := st.steps.setIfInBounds (n - 1 - Config.initHeaderTicks) .initial }
    else st

/-! ### The draft area (R122) -/

/-- An access of DRDAT reaches the draft byte at the draft address and advances the address (R122). -/
def accessDrdat (a : Access) (s : State) : State :=
  let next := s.xfer.dradr + 1
  match a with
  | .read => ({ s with xfer := { s.xfer with dradr := next } }).drives s.xfer.draft[s.xfer.dradr]
  | .write v => { s with xfer := { s.xfer with draft := s.xfer.draft.set s.xfer.dradr v, dradr := next } }

/-- DRDAT_ACCESS (R122). -/
def execDrdatAccess (a : Access) (s : State) : Out := ran (accessDrdat a) s

/-- A read of RBDAT (R133). -/
def readRbdat (s : State) : State :=
  ({ s with xfer := { s.xfer with rbadr := s.xfer.rbadr + 1 } }).drives s.xfer.image[s.xfer.rbadr]

/-- RBDAT_READ (R133). -/
def execRbdatRead (s : State) : Out := ran readRbdat s

/-! ### Requests (R126 to R128) -/

/-- The draft checks a request makes, in their order (the table of R127). -/
def draftRefusal (d : Image) (r : TransferRequest) : Option Reason :=
  let header := (decide (r = .commitHeader) || decide (r = .commitBoth)) && d.valid
  let steps := decide (r = .commitSteps) || decide (r = .commitBoth)
  if header && decide (15 < d.repeatCode) then some .badRepeat
  else if (header || steps) && !(decide (1 ≤ d.count) && decide (d.count ≤ 32)) then some .badCount
  else if (header || steps) && decide (256 < d.first + d.count) then some .badRange
  else if steps && !(List.range d.count).all d.stepLegal then some .badStep
  else none

/-- The checks of R126 after the first, in their order. -/
def State.requestRefusal (s : State) (r : TransferRequest) : Option Reason :=
  if s.ctl.state = .init then some .wrongState
  else if Config.transferCapacity ≤ s.xfer.queue.length then some .queueFull
  else if 32 ≤ s.xfer.xid.toNat then some .badId
  else draftRefusal s.xfer.draft r

/-- What an accepted request holds: copies of the draft as it stands (R128). -/
def transferOf (d : Image) : TransferRequest → Transfer
  | .commitHeader => .commitHeader d.header
  | .commitSteps => .commitSteps d.first d.steps
  | .commitBoth => .commitBoth d.header d.first d.steps
  | .fetch => .fetch none

/-- An accepted request joins the tail of the transfer queue in WAITING (R128). -/
def State.enqueue (s : State) (r : TransferRequest) : State :=
  { s with xfer :=
      { s.xfer with queue := s.xfer.queue ++
          [{ id := Fin.ofNat 32 s.xfer.xid.toNat, transfer := transferOf s.xfer.draft r, progress := none }] } }

/-- A write of a request code to XREQ (R126). -/
def transferRequest (r : TransferRequest) (s : State) : State :=
  match s.requestRefusal r with
  | some why => s.refuseCommand .xreq why
  | none => s.enqueue r

/-- COMMIT_HEADER (R128). -/
def execCommitHeader (s : State) : Out := ran (transferRequest .commitHeader) s

/-- COMMIT_STEPS (R128). -/
def execCommitSteps (s : State) : Out := ran (transferRequest .commitSteps) s

/-- COMMIT_BOTH (R128). -/
def execCommitBoth (s : State) : Out := ran (transferRequest .commitBoth) s

/-- FETCH (R128). -/
def execFetch (s : State) : Out := ran (transferRequest .fetch) s

/-! ### Store accesses (R130 to R132) -/

/-- The accesses a fetch of a header takes (R130). -/
def fetchAccesses : Header → Nat
  | none => 1
  | some h => h.count + 1

/-- The accesses an entry takes (the table of R130). -/
def Entry.accesses (e : Entry) (st : Store) : Nat :=
  match e.transfer with
  | .commitHeader _ => 1
  | .commitSteps _ steps => steps.length
  | .commitBoth _ _ steps => steps.length + 1
  | .fetch none => fetchAccesses (st.header e.id)
  | .fetch (some (h, _)) => fetchAccesses h

/-- The accesses made so far. -/
def Entry.made (e : Entry) : Nat := e.progress.getD 0

/-- The next access of an entry is its last (R130). -/
def Entry.nextIsLast (e : Entry) (st : Store) : Bool := decide (e.accesses st ≤ e.made + 1)

/-- The write of one whole step (R115). -/
def Store.writeStep (st : Store) (n : Nat) (t : Step) : Store := { st with steps := st.steps.setIfInBounds n t }

/-- The write of one whole header (R115). -/
def Store.writeHeader (st : Store) (p : PatternId) (h : Header) : Store := { st with headers := st.headers.set p h }

/-- The step at a place of the step copies. -/
def stepCopy (steps : List Step) (i : Nat) : Step := steps.getD i .initial

/-- The store after the next access of an entry: commits write steps in ascending order, then the header (R131). -/
def Entry.storeAfter (e : Entry) (st : Store) : Store :=
  match e.transfer with
  | .commitHeader h => st.writeHeader e.id h
  | .commitSteps first steps => st.writeStep (first + e.made) (stepCopy steps e.made)
  | .commitBoth h first steps =>
    if e.made < steps.length then st.writeStep (first + e.made) (stepCopy steps e.made)
    else st.writeHeader e.id h
  | .fetch _ => st

/-- What a fetch has read after its next access (R132). -/
def fetchAfter (id : PatternId) (made : Nat) (st : Store) : Option (Header × List Step) → Header × List Step
  | none => (st.header id, [])
  | some (none, steps) => (none, steps)
  | some (some h, steps) => (some h, steps ++ [st.step (h.first + (made - 1))])

/-- The entry after its next access: APPLYING, with one access more (R130). -/
def Entry.after (e : Entry) (st : Store) : Entry :=
  { e with
    progress := some (e.made + 1)
    transfer := match e.transfer with
      | .fetch r => .fetch (some (fetchAfter e.id e.made st r))
      | t => t }

/-- The head entry makes its next access, which does not complete it (R130). -/
def State.makeAccess (s : State) : State :=
  match s.xfer.queue with
  | [] => s
  | e :: rest =>
    { s with
      store := e.storeAfter s.store
      xfer := { s.xfer with queue := e.after s.store :: rest, accessDue := false } }

/-- The engine at a tick: no queue is applied in INIT (R130, R135). The last access of an entry belongs to its
completion (DEDUCED, safe; log 17); another is made now, before every read of the tick, or is left to the end of the
tick, after all of them; never between two of them (DESIGN CHOICE, unsafe; log 7). -/
def State.engineTick (s : State) (late : Bool) : State :=
  match s.xfer.queue with
  | [] => s
  | e :: _ =>
    if s.ctl.state = .init then s
    else if e.nextIsLast s.store || late then { s with xfer := { s.xfer with accessDue := true } }
    else s.makeAccess

/-- An access left to the end of the tick is made, if it does not complete its entry: after every read of the tick
(R115; DESIGN CHOICE, unsafe; log 7). -/
def State.lateAccess (s : State) : State :=
  match s.xfer.queue with
  | [] => s
  | e :: _ => if s.xfer.accessDue && !e.nextIsLast s.store then s.makeAccess else s

/-- Steps a commit wrote, for its PATTERN_UPDATED record (R131). -/
def Transfer.stepsWritten : Transfer → Nat
  | .commitHeader _ | .fetch _ => 0
  | .commitSteps _ steps | .commitBoth _ _ steps => steps.length

/-- The header a commit wrote was valid (R131). -/
def Transfer.headerValid : Transfer → Bool
  | .commitHeader h | .commitBoth h _ _ => h.isSome
  | .commitSteps _ _ | .fetch _ => false

/-- The last write of a commit: the entry leaves the queue, a PATTERN_UPDATED record is made, XDONE is set (R131). -/
def State.completeCommit (s : State) (e : Entry) (rest : List Entry) : State :=
  (({ s with
      store := e.storeAfter s.store
      xfer := { s.xfer with queue := rest, accessDue := false } }).record .patternUpdated (some e.id)
    (e.transfer.request.code + field 3 (bit e.transfer.headerValid)) e.transfer.stepsWritten).setCause .xdone

/-- The last read of a fetch: the entry leaves the queue, the readback image is replaced, RBRDY is set (R132). -/
def State.completeFetch (s : State) (e : Entry) (rest : List Entry) (r : Option (Header × List Step)) : State :=
  let got := fetchAfter e.id e.made s.store r
  ({ s with xfer :=
      { s.xfer with
        queue := rest
        accessDue := false
        image := imageOf got.1 got.2
        replaced := true } }).setCause .rbrdy

/-- The completion of a commit, when it is due (R131; log 3). -/
def commitCompletionStep (s : State) : State :=
  match s.xfer.queue with
  | [] => s
  | e :: rest =>
    match e.transfer with
    | .fetch _ => s
    | .commitHeader _ | .commitSteps _ _ | .commitBoth _ _ _ =>
      if s.xfer.accessDue && e.nextIsLast s.store then s.completeCommit e rest else s

/-- COMMIT_COMPLETION (R131). -/
def execCommitCompletion (s : State) : Out := ran commitCompletionStep s

/-- The completion of a fetch, when it is due (R132; log 3). -/
def fetchCompletionStep (s : State) : State :=
  match s.xfer.queue with
  | [] => s
  | e :: rest =>
    match e.transfer with
    | .fetch r => if s.xfer.accessDue && e.nextIsLast s.store then s.completeFetch e rest r else s
    | .commitHeader _ | .commitSteps _ _ | .commitBoth _ _ _ => s

/-- FETCH_COMPLETION (R132). -/
def execFetchCompletion (s : State) : Out := ran fetchCompletionStep s

/-! ### Soft reset (R136) -/

/-- The transfer queue is abandoned, with a TRANSFER_ABANDONED record if an entry was lost (R136). -/
def State.abandonTransfers (s : State) : State :=
  let t := { s with xfer := { s.xfer with queue := [], accessDue := false } }
  match s.xfer.queue with
  | [] => t
  | e :: rest =>
    t.record .transferAbandoned (some e.id) (e.transfer.request.code + field 3 (bit e.progress.isSome))
      (rest.length + 1)

end Sys2Proof.Machine
end

