-- ==== Sys2Proof/Machine/Control.lean ====
section
/-! DEFINITION. The Control Unit: the controller commands, the resets and the end of the initialisation
(chapter 11, R188 to R196). -/

namespace Sys2Proof.Machine

/-! ### START (R190) -/

/-- The START command: the settle timer, ARMING, scanning, the record (R190). -/
def startCommand (s : State) : State :=
  if s.ctl.state = .setup then
    ({ s with
        ctl := { s.ctl with state := .arming, settleStart := some s.time.clock }
        scan := { s.scan with count := some 0 } }).controllerRecord .setup .start
  else s.refuseCommand .ccmd .wrongState

/-- START (R190). -/
def execStart (s : State) : Out := ran startCommand s

/-! ### STOP (R194) -/

/-- A point whose run part is cleared (R19, R21). -/
def Point.cleared (x : Point) : Point := { x with qual := .clear, seq := .clear }

/-- The clearing of the run state (R194, step 2; R50, R161). -/
def State.clearRun (s : State) : State :=
  { s with
    ctl := { s.ctl with settleStart := none }
    scan := { s.scan with count := none }
    points := s.points.map Point.cleared
    groups := Vector.replicate 8 .opened
    tones := { s.tones with requests := [], arrival := 0 }
    voices := Vector.replicate 4 none }

/-- Entry to SETUP: the state, and the reload of the staging bytes (R4, R194). -/
def State.enterSetup (s : State) : State := (s.setCtl .setup).reloadStaging

/-- The states in which STOP is accepted (the table of R189). -/
def CtlState.acceptsStop : CtlState → Bool
  | .arming | .active | .hold => true
  | .init | .setup => false

/-- The STOP command (R194). -/
def stopCommand (s : State) : State :=
  if s.ctl.state.acceptsStop then s.leaveActive.clearRun.enterSetup.controllerRecord s.ctl.state .stop
  else s.refuseCommand .ccmd .wrongState

/-- STOP (R194). -/
def execStop (s : State) : Out := ran stopCommand s

/-! ### HOLD and RESUME (R193) -/

/-- A running delay is frozen with its elapsed time (R17). -/
def Timer.freeze (t : Timer) (now : Clock) : Timer :=
  match t with
  | .running k start => .frozen k (now - start)
  | .idle => .idle
  | .frozen k e => .frozen k e

/-- A frozen delay takes its new start time (R18). -/
def Timer.thaw (t : Timer) (now : Clock) : Timer :=
  match t with
  | .frozen k e => .running k (now - e)
  | .idle => .idle
  | .running k start => .running k start

/-- Shelves that have counted out at this tick expire before the hold (R45: the shelf expires at that tick;
DEDUCED, unsafe; log 19). -/
def State.expireShelves (s : State) : State := allPoints.foldl (fun t p => shelfExpiryStep p t) s

/-- Step 2 of HOLD: the state, scanning, the point timers (R17, R193). -/
def State.enterHold (s : State) : State :=
  { s with
    ctl := { s.ctl with state := .hold }
    scan := { s.scan with count := none }
    points := s.points.map fun x => { x with qual := { x.qual with timer := x.qual.timer.freeze s.time.clock } } }

/-- Steps 1 to 4 of HOLD (R193). -/
def State.holdNow (s : State) : State :=
  let t := s.leaveActive
  (t.enterHold.allocateIfLimitChanged t.voiceLimit).controllerRecord .active .hold

/-- The HOLD command (R193). -/
def holdCommand (s : State) : State :=
  if s.ctl.state = .active then s.expireShelves.holdNow else s.refuseCommand .ccmd .wrongState

/-- HOLD (R193). -/
def execHold (s : State) : Out := ran holdCommand s

/-- Steps 1 and 2 of RESUME (R18, R193). -/
def State.leaveHold (s : State) : State :=
  { s with
    ctl := { s.ctl with state := .active }
    scan := { s.scan with count := some 0 }
    points := s.points.map fun x =>
      { x with qual := { x.qual with agreement := 0, timer := x.qual.timer.thaw s.time.clock } } }

/-- The RESUME command (R193). -/
def resumeCommand (s : State) : State :=
  if s.ctl.state = .hold then
    (s.leaveHold.allocateIfLimitChanged s.voiceLimit).controllerRecord .hold .resume
  else s.refuseCommand .ccmd .wrongState

/-- RESUME (R193). -/
def execResume (s : State) : Out := ran resumeCommand s

/-! ### SOFTRESET (R195) -/

/-- The read latch is released (R187). -/
def State.releaseLatch (s : State) : State := { s with evq := { s.evq with latch := none } }

/-- The Supply Guard returns to OK (R169). -/
def State.supplyOk (s : State) : State :=
  { s with supply := { s.supply with state := .ok, count1 := 0, count2 := 0 } }

/-- Every cause flag is cleared, but EVQNE while the Event Queue holds a record (R195, step 6). -/
def State.clearFlags (s : State) : State :=
  { s with irq := s.irq.clear (BitVec.allOnes 15) !s.evq.records.isEmpty }

/-- The SOFTRESET command (R195). -/
def softresetCommand (s : State) : State :=
  if s.ctl.state = .init then s.refuseCommand .ccmd .wrongState
  else
    (s.leaveActive.abandonTransfers.releaseLatch.clearRun.supplyOk.enterSetup.clearFlags).controllerRecord
      s.ctl.state .softreset

/-- SOFTRESET (R195). -/
def execSoftreset (s : State) : Out := ran softresetCommand s

/-! ### Power-on and hardware reset (R196) -/

/-- The values of power-on reset (R116, R196). With the reset input low the initialisation waits for its release
(DEDUCED, safe; log 21). -/
def powerOn (s : State) : State :=
  { State.reset with
    pending := s.pending
    pins := s.pins
    resetLow := s.resetLow
    store := { Store.reset with init := if s.resetLow then none else some .full } }

/-- POWER_ON_RESET (R196). -/
def execPowerOnReset (s : State) : Out := .next (powerOn s)

/-- The values of hardware reset, with the initialisation `init` (R117, R196): the store's tables and its mark
are kept. -/
def State.hardwareValues (s : State) (low : Bool) (init : Option InitKind) : State :=
  { State.reset with
    pending := s.pending
    pins := s.pins
    resetLow := low
    store := { s.store with init := init } }

/-- The initialisation a hardware reset begins (R117). -/
def Store.hardwareInit (st : Store) : InitKind := if st.stepsInitialised then .headers else .full

/-- HARDWARE_RESET: the release of the reset input (R196). -/
def execHardwareReset (s : State) : Out := .next (s.hardwareValues false (some s.store.hardwareInit))

/-- RESET_INPUT_ASSERTED: while the input is low every block holds its hardware-reset values (R196). -/
def execResetInputAsserted (s : State) : Out := .next (s.hardwareValues true none)

/-! ### The end of the initialisation (R116, R117, R196) -/

/-- The initialisation in progress has made its last write (R116, R117). -/
def State.initDue (s : State) : Bool :=
  decide (s.ctl.state = .init) &&
  match s.store.init with
  | none => false
  | some k => decide (k.ticks ≤ s.time.clock.toNat)

/-- The store's part: a full initialisation sets the mark (R116; log 18). -/
def Store.initCompleted (st : Store) : Store :=
  { st with stepsInitialised := st.stepsInitialised || decide (st.init = some .full), init := none }

/-- INIT is left for SETUP, with the cadence started (R92, R196). -/
def State.leaveInit (s : State) : State :=
  ({ s with
      store := s.store.initCompleted
      time := { s.time with eighthLen := s.time.elen } }).enterSetup.controllerRecord .init .initDone

/-- The completion of the store initialisation, when it is due (R196; log 3). -/
def initDoneStep (s : State) : State := if s.initDue then s.leaveInit else s

/-- INIT_DONE (R196). -/
def execInitDone (s : State) : Out := ran initDoneStep s

end Sys2Proof.Machine
end

