-- ==== Sys2Proof/Machine/Events.lean ====
section
/-! DEFINITION. Reading the Event Queue, FLUSH, and clearing cause flags (chapter 10, R198). -/

namespace Sys2Proof.Machine

/-- A read of EV0: the latch takes a copy of the oldest record (R182). -/
def readEv0 (s : State) : State :=
  match s.evq.records with
  | [] => ({ s with evq := { s.evq with latch := none } }).drives 0
  | r :: _ => ({ s with evq := { s.evq with latch := some r } }).drives (byte r.kind.code)

/-- EV0_READ (R182). -/
def execEv0Read (s : State) : Out := ran readEv0 s

/-- The records after a read of EV9 with the latch held: the oldest goes if its number is the latched one (R183). -/
def removeIfLatched (latched : Record) : List Record → List Record
  | [] => []
  | r :: rest => if r.seq = latched.seq then rest else r :: rest

/-- A read of EV9 (R183). -/
def readEv9 (s : State) : State :=
  match s.evq.latch with
  | none => s.drives 0
  | some l =>
    ({ s with evq := { s.evq with records := removeIfLatched l s.evq.records, latch := none } }).drives l.detail

/-- EV9_READ (R183). -/
def execEv9Read (s : State) : Out := ran readEv9 s

/-- The latched sequence number equals that of the oldest record (R186). -/
def State.latchEqual (s : State) : Bool :=
  match s.evq.latch, s.evq.records with
  | some l, r :: _ => decide (l.seq = r.seq)
  | _, _ => false

/-- FLUSH: the queue is emptied and the latch released (R184). R183 has the latched copy stay even after its record
was flushed; the model follows R184 and R182, so that EV1 to EV8 then read 0 (DESIGN CHOICE, unsafe; log 30). -/
def flushCommand (s : State) : State := { s with evq := { s.evq with records := [], latch := none } }

/-- FLUSH (R184). -/
def execFlush (s : State) : Out := ran flushCommand s

/-- A write of ICS0 or ICS1 (R185, R198). -/
def writeIcs (h : WhichByte) (v : Byte) (s : State) : State :=
  { s with irq := s.irq.clear (ofHalf h v) !s.evq.records.isEmpty }

/-- ICS_WRITE (R198). -/
def execIcsWrite (h : WhichByte) (v : Byte) (s : State) : Out := ran (writeIcs h v) s

/-- EV0 to EV9 as they read: the kind of the oldest record, and the fields of the latched copy (R182, R183); after a
FLUSH the latch is released and they read 0 (log 30). -/
def State.evByte (s : State) (i : Fin 10) : Byte :=
  match i with
  | 0 => match s.evq.records with
    | [] => 0
    | r :: _ => byte r.kind.code
  | i =>
    match s.evq.latch with
    | none => 0
    | some l =>
      match i with
      | 0 => byte l.kind.code
      | 1 => byte (l.seq.toNat % 256)
      | 2 => byte (l.seq.toNat / 256)
      | 3 => byte (l.time.toNat % 256)
      | 4 => byte (l.time.toNat / 256 % 256)
      | 5 => byte (l.time.toNat / 65536 % 256)
      | 6 => byte (l.time.toNat / 16777216)
      | 7 => byte ((l.point.map Fin.val).getD 0xFF)
      | 8 => l.source
      | 9 => l.detail

end Sys2Proof.Machine
end

