-- ==== Sys2Proof/Machine/LampDriver.lean ====
section
/-! DEFINITION. The Lamp Driver: rendering through the cadence, the four overlays and the pins (chapter 9). -/

namespace Sys2Proof.Machine

/-- The eighths in which an indication is lit (the table of R163). -/
def Indication.lit (i : Indication) (eighth : BitVec 3) : Bool :=
  let e := eighth.toNat
  match i with
  | .off => false
  | .steady => true
  | .fast => decide (e % 2 = 0)
  | .slow => decide (e < 4)
  | .double => decide (e = 0 ∨ e = 2)
  | .wink => decide (e ≠ 7)

/-- A lamp output: dark, or lit at a level. -/
abbrev LampOut := Option Nat

/-- The rendered output, lit lamps at the lamp level (R163, R165). -/
def State.rendered (s : State) (p : PointId) : LampOut :=
  if (s.point p).indication.lit s.time.eighth then some s.lamps.lmplv.toNat else none

/-- Overlay 1, controller (R165). -/
def State.overlayController (s : State) (o : LampOut) : LampOut := if s.ctl.state = .active then o else none

/-- Overlay 2, test (R165). -/
def State.overlayTest (s : State) (p : PointId) (o : LampOut) : LampOut :=
  if s.panel.test.state = .idle then o
  else if (s.point p).cfg.enabled then some s.lamps.tstlv.toNat
  else none

/-- Overlay 3, economy: the weaker of the level and the cap (R165). -/
def State.overlayEconomy (s : State) (o : LampOut) : LampOut :=
  if s.supply.state = .economy then o.map (max s.lamps.eccap.toNat) else o

/-- Overlay 4, blackout (R165). -/
def State.overlayBlackout (s : State) (o : LampOut) : LampOut := if s.supply.state = .blackout then none else o

/-- The output of a lamp after the overlays, in their order (R165). -/
def State.lampOut (s : State) (p : PointId) : LampOut :=
  s.overlayBlackout (s.overlayEconomy (s.overlayTest p (s.overlayController (s.rendered p))))

/-- The outputs of all lamps. -/
def State.lampOuts (s : State) : Vector LampOut 32 := Vector.ofFn fun p => s.lampOut p

/-- LOUT0 to LOUT3: bit n is lamp 8i + n, 1 lit (R167). -/
def State.loutByte (s : State) (i : Fin 4) : Byte :=
  let lit (n : Nat) : Nat := bit ((s.lampOuts.toList.getD (8 * i + n) none).isSome)
  byte (lit 0 + field 1 (lit 1) + field 2 (lit 2) + field 3 (lit 3) + field 4 (lit 4) + field 5 (lit 5) +
    field 6 (lit 6) + field 7 (lit 7))

/-- The share of the present drive period, in %, for which a lamp pin is on (R166). -/
def State.lampShare (s : State) (p : PointId) : Nat :=
  match s.lamps.drive[p] with
  | none => 0
  | some level => Config.lampShare level

end Sys2Proof.Machine
end

