-- ==== Sys2Proof/Machine/Tones.lean ====
section
/-! DEFINITION. Step boundaries and decays, the chime and the voice count (chapter 8). -/

namespace Sys2Proof.Machine

def State.setVoice (s : State) (v : VoiceId) (x : Voice) : State := { s with voices := s.voices.set v x }

/-- A sound completes: its voice goes IDLE, its requests are removed, and an occasion follows (R151). -/
def State.completeSound (s : State) (v : VoiceId) (x : Sound) : State :=
  ((s.setVoice v none).removeSound x).allocate

/-- A sound's header is found empty at a boundary (R150, R153). -/
def State.boundaryMissing (s : State) (v : VoiceId) (x : Sound) : State :=
  ((s.setVoice v none).soundMissing x).allocate

/-- The step boundary of a voice, when it is due (R148, R150, R151; log 3). -/
def stepBoundaryStep (v : VoiceId) (s : State) : State :=
  match s.voices[v] with
  | none => s
  | some p =>
    if p.boundaryDue then
      match s.store.header p.sound.pattern with
      | none => s.boundaryMissing v p.sound
      | some h =>
        match p.boundary s.store h with
        | some q => s.setVoice v (some q)
        | none => s.completeSound v p.sound
    else s

/-- STEP_BOUNDARY (R150). -/
def execStepBoundary (v : VoiceId) (s : State) : Out := ran (stepBoundaryStep v) s

/-- The weakening of a voice's level, when it is due (R149; log 3). -/
def envelopeDecayStep (v : VoiceId) (s : State) : State :=
  match s.voices[v] with
  | none => s
  | some p => if p.decayDue then s.setVoice v (some p.decay) else s

/-- ENVELOPE_DECAY (R149). -/
def execEnvelopeDecay (v : VoiceId) (s : State) : Out := ran (envelopeDecayStep v) s

/-- A START of the chime: a posting, a refresh or a replacement (R156). -/
def State.startChime (s : State) : State :=
  s.post .chime .chime s.tones.chimePattern .once (some s.tones.chimePriority)

/-- A write of CHCTL carrying START alone, or STOP (R156, R157). -/
def chimeCommand (stop : Bool) (s : State) : State :=
  if s.ctl.state ≠ .active then s.refuseCommand .chctl .wrongState
  else if stop then s.withdraw .chime
  else s.startChime

/-- CHIME_START (R156). -/
def execChimeStart (s : State) : Out := ran (chimeCommand false) s

/-- CHIME_STOP (R157): with START in the same write it is STOP alone. -/
def execChimeStop (_withStart : Bool) (s : State) : Out := ran (chimeCommand true) s

/-- A write of VCNT (R143). -/
def writeVcnt (v : Byte) (s : State) : State :=
  if 1 ≤ v.toNat ∧ v.toNat ≤ 4 then
    ({ s with tones := { s.tones with vcnt := v } }).allocateIfLimitChanged s.voiceLimit
  else s.refuse .vcnt .badValue

/-- VCNT_WRITE (R143). -/
def execVcntWrite (v : Byte) (s : State) : Out := ran (writeVcnt v) s

/-- The sound of the chime held, if one is (R157). -/
def State.chimeSound (s : State) : Option Sound :=
  (s.tones.requests.find? fun r => r.source = .chime).map Request.sound

/-- The chime's sound is PLAYING (R157). -/
def State.chimePlaying (s : State) : Bool :=
  match s.chimeSound with
  | none => false
  | some x => s.isPlaying x

end Sys2Proof.Machine
end

