-- ==== Sys2Proof/Machine/Window.lean ====
section
/-! DEFINITION. Reading the register window: the present value of every register, the reads of first bytes that
fill hold bytes, and the reads of partner bytes (chapter 11, R200). -/

namespace Sys2Proof.Machine

/-! ### Values of the status registers -/

/-- CSTAT: role, LOCKED, miss count, eighth index (R103). -/
def Timebase.cstat (t : Timebase) : Byte :=
  byte (t.role.code + field 2 (bit (t.sync = .locked)) + field 3 t.misses + field 5 t.eighth.toNat)

/-- Byte `i` of the run clock, least significant first (R90). -/
def Timebase.clockByte (t : Timebase) (i : Fin 4) : Byte := byte (t.clock.toNat / 256 ^ i.val % 256)

/-- One byte of a two-byte value. -/
def halfByte (v : Half) : WhichByte → Byte
  | .low => byte (v.toNat % 256)
  | .high => byte (v.toNat / 256)

/-- PST0 to PST3: the selected point's run part (R16, R49). -/
def State.pstByte (s : State) (i : Fin 4) : Byte :=
  let x := s.point s.window.psel
  pointStateByte x.qual x.seq (s.requestKind (.point s.window.psel)) i

/-- GST0 to GST5: the selected group's record (R64). -/
def State.gstByte (s : State) (i : Fin 6) : Byte :=
  let r := s.group s.gsel
  match i with
  | 0 => byte (bit r.captured)
  | 1 => byte (s.marked s.gsel .first).length
  | 2 => byte (s.marked s.gsel .subsequent).length
  | 3 => halfByte r.captureScan .low
  | 4 => halfByte r.captureScan .high
  | 5 => match s.marked s.gsel .first with
    | [] => 0xFF
    | p :: _ => byte p

/-- The filtered levels, and whether the TST press is a party to the test (R69). -/
def Panel.pbtn (p : Panel) : Byte :=
  byte (bit p.filters[0].pressed + field 1 (bit p.filters[1].pressed) + field 2 (bit p.filters[2].pressed) +
    field 3 (bit p.filters[3].pressed) + field 4 (bit p.test.panelParty))

/-- TSTS: the test state and the two parties (R81). -/
def TestRecord.tsts (t : TestRecord) : Byte :=
  byte (t.state.code + field 2 (bit t.panelParty) + field 3 (bit t.hostParty))

/-- The head entry is APPLYING (R129). -/
def TransferEngine.busy (x : TransferEngine) : Bool :=
  match x.queue with
  | [] => false
  | e :: _ => e.progress.isSome

/-- XSTAT0: entries, busy, readback replaced (R129). -/
def TransferEngine.xstat0 (x : TransferEngine) : Byte :=
  byte (x.queue.length + field 3 (bit x.busy) + field 4 (bit x.replaced))

/-- XSTAT1: the head entry's id and request, 0x00 while the queue is empty (R129). -/
def TransferEngine.xstat1 (x : TransferEngine) : Byte :=
  match x.queue with
  | [] => 0
  | e :: _ => byte (e.id + field 5 e.transfer.request.code)

/-- The passes left as VST2 codes them: 31 is unlimited. -/
def passesCode : Option Nat → Nat
  | none => 31
  | some n => n

/-- VST0 to VST2 of a voice; an IDLE voice reads 0 (R159). -/
def voiceByte (v : Voice) (i : Fin 3) : Byte :=
  match v with
  | none => 0
  | some p =>
    match i with
    | 0 => byte (1 + field 1 p.sound.rule.code + field 3 p.sound.pattern)
    | 1 => byte (p.stepIndex + field 7 (bit p.latched.tone.isNone))
    | 2 => byte (p.envLevel - 1 + field 3 (passesCode p.passes))

/-- SGST: the supply state and the counts of the transitions leaving it (R175). -/
def Supply.sgst (u : Supply) : Byte := byte (u.state.code + field 2 u.count1 + field 4 u.count2)

/-- VCNT as it reads: the configured count and the effective limit (R143). -/
def State.vcntByte (s : State) : Byte := byte (s.tones.vcnt.toNat + field 4 s.voiceLimit)

/-- CHPAT (R156). -/
def Tones.chpat (t : Tones) : Byte := byte (t.chimePattern + field 6 t.chimePriority)

/-- CHCTL as it reads: chime held, chime playing (R157). -/
def State.chctlByte (s : State) : Byte := byte (bit (s.holdsRequest .chime) + field 1 (bit s.chimePlaying))

/-- EVLAT: latch held, and equal to the oldest (R186). -/
def State.evlatByte (s : State) : Byte := byte (bit s.evq.latch.isSome + field 1 (bit s.latchEqual))

/-! ### The present value of every register -/

/-- What a register shows at present; a write-only register reads 0x00 (chapter 11). -/
def State.presentByte (s : State) : Reg → Byte
  | .ccmd | .pcmd | .actn | .gcmd | .xreq | .evcmd => 0
  | .csts => byte s.ctl.state.code
  | .rfs0 => byte s.ctl.refAddr.toNat
  | .rfs1 => byte s.ctl.refReason.code
  | .tdiv h => halfByte s.time.tdiv h
  | .rclk i => s.time.clockByte i
  | .elen => s.time.elen
  | .srole => byte s.time.role.code
  | .cstat => s.time.cstat
  | .cycnt => byte s.time.cycle.toNat
  | .setl => s.ctl.setl
  | .opts => byte (bit s.ctl.quietStart)
  | .psel => byte s.window.psel
  | .pcf i => (s.point s.window.psel).cfg.toByte i
  | .pst i => s.pstByte i
  | .shdur h => halfByte s.window.shdur h
  | .scnper => byte s.scan.period.code
  | .scnnum h => halfByte s.scan.number h
  | .lout i => s.loutByte i
  | .ascp => s.panel.ascp.toByte
  | .agrd => s.panel.agrd
  | .plock => byte s.panel.plock.toNat
  | .pbtn => s.panel.pbtn
  | .tsts => s.panel.test.tsts
  | .gsel => byte s.gsel
  | .gst i => s.gstByte i
  | .dradr => byte s.xfer.dradr
  | .drdat => s.xfer.draft[s.xfer.dradr]
  | .xid => s.xfer.xid
  | .xstat0 => s.xfer.xstat0
  | .xstat1 => s.xfer.xstat1
  | .rbadr => byte s.xfer.rbadr
  | .rbdat => s.xfer.image[s.xfer.rbadr]
  | .vcnt => s.vcntByte
  | .vsel => byte s.tones.vsel
  | .vst i => voiceByte s.voices[s.tones.vsel] i
  | .rqcnt => byte s.tones.requests.length
  | .chpat => s.tones.chpat
  | .chctl => s.chctlByte
  | .htpat => byte s.tones.htpat
  | .lmplv => s.lamps.lmplv
  | .tstlv => s.lamps.tstlv
  | .eccap => s.lamps.eccap
  | .ecolv => s.supply.ecolv
  | .echys => s.supply.echys
  | .sgst => s.supply.sgst
  | .sglev => byte s.supply.last.toNat
  | .ev i => s.evByte i
  | .evmsk => byte s.evq.mask.toNat
  | .evthr => s.evq.threshold
  | .evcnt => byte s.evq.records.length
  | .evnxt0 => halfByte s.evq.seq .low
  | .evnxt1 => halfByte s.evq.seq .high
  | .ics h => halfOf s.irq.flags h
  | .ien h => halfOf s.irq.enables h
  | .ilv h => s.irq.levelByte h
  | .ivec => byte s.irq.vector
  | .evlat => s.evlatByte

/-- The partner byte a register is, if it is one. -/
def Reg.partner (r : Reg) : Option Partner := allPartners.find? fun b => b.reg = r

/-- The byte of a partner: its hold byte if the read follows, else the present value (R200). -/
def State.partnerByte (s : State) (b : Partner) : Byte :=
  if (s.holdOf b).follows then (s.holdOf b).value else s.presentByte b.reg

/-- What a read of a register returns (R200). -/
def State.registerByte (s : State) (r : Reg) : Byte :=
  match r.partner with
  | some b => s.partnerByte b
  | none => s.presentByte r

/-- What a read of an address returns; 0x00 at an unassigned address (R200). The reads without side effects have
no row of the table; this is their value (log 27). -/
def State.readByte (s : State) (a : BitVec 7) : Byte :=
  match regAt a with
  | none => 0
  | some r => s.registerByte r

/-- What a read drives on the data lines: nothing while the reset input is held low (R196). -/
def State.busRead (s : State) (a : BitVec 7) : Option Byte := if s.resetLow then none else some (s.readByte a)

/-! ### Reads of first bytes (R200) -/

/-- A read of a first byte: its value is driven, and each partner's present value goes to its hold byte. -/
def readFirst (first : Reg) (partners : List Partner) (s : State) : State :=
  (s.copyHolds (partners.map fun b => (b, s.presentByte b.reg))).drives (s.presentByte first)

/-- SCNNUM_LOW_READ (R9). -/
def execScnnumLowRead (s : State) : Out := ran (readFirst (.scnnum .low) [.scnnumHigh]) s

/-- RCLK0_READ (R90). -/
def execRclk0Read (s : State) : Out := ran (readFirst (.rclk 0) [.rclk1, .rclk2, .rclk3]) s

/-- CSTAT_READ (R103). -/
def execCstatRead (s : State) : Out := ran (readFirst .cstat [.cycnt]) s

/-- SHELF_SECONDS_LOW_READ (R49). -/
def execShelfSecondsLowRead (s : State) : Out := ran (readFirst (.pst 2) [.pst3]) s

/-- GST3_READ (R64). -/
def execGst3Read (s : State) : Out := ran (readFirst (.gst 3) [.gst4]) s

/-- XSTAT0_READ (R129). -/
def execXstat0Read (s : State) : Out := ran (readFirst .xstat0 [.xstat1]) s

/-- VST0_READ (R159). -/
def execVst0Read (s : State) : Out := ran (readFirst (.vst 0) [.vst1, .vst2]) s

/-- LOUT0_READ (R167). -/
def execLout0Read (s : State) : Out := ran (readFirst (.lout 0) [.lout1, .lout2, .lout3]) s

/-- SGST_READ (R175). -/
def execSgstRead (s : State) : Out := ran (readFirst .sgst [.sglev]) s

/-- EVNXT0_READ (R186). -/
def execEvnxt0Read (s : State) : Out := ran (readFirst .evnxt0 [.evnxt1]) s

/-- RFS0_READ (R197). -/
def execRfs0Read (s : State) : Out := ran (readFirst .rfs0 [.rfs1]) s

/-! ### Reads of partner bytes (R200) -/

/-- The hold byte of a partner is spent: the next read of it follows only a new read of its first byte. -/
def State.spendHold (s : State) (b : Partner) : State :=
  { s with holds := s.holds.set b.index { s.holdOf b with follows := false } }

/-- A read of a partner byte (R200). -/
def readPartner (b : Partner) (s : State) : State := (s.spendHold b).drives (s.partnerByte b)

/-- HOLD_PARTNER_BYTE_READ (R200). -/
def execHoldPartnerByteRead (b : Partner) (s : State) : Out := ran (readPartner b) s

end Sys2Proof.Machine
end

