-- ==== Sys2Proof/Machine/Registers.lean ====
section
/-! DEFINITION. Writing the register window: every address, by its register's own rule (R200). -/

namespace Sys2Proof.Machine

/-! ### Registers locked outside SETUP (R191) -/

/-- A write that is accepted in SETUP and refused with LOCKED in every other state. -/
def State.inSetup (s : State) (r : Reg) (f : State → State) : State :=
  if s.ctl.state = .setup then f s else s.refuse r .locked

/-- A write of ELEN (R91). -/
def writeElen (v : Byte) (s : State) : State :=
  s.inSetup .elen fun s =>
    if 50 ≤ v.toNat ∧ v.toNat ≤ 250 then { s with time := { s.time with elen := v } } else s.refuse .elen .badValue

/-- A write of SETL (R191). -/
def writeSetl (v : Byte) (s : State) : State :=
  s.inSetup .setl fun s => { s with ctl := { s.ctl with setl := v } }

/-- A write of OPTS (R191). -/
def writeOpts (v : Byte) (s : State) : State :=
  s.inSetup .opts fun s => { s with ctl := { s.ctl with quietStart := bits v 0 1 = 1 } }

/-- A write of SCNPER (R7). -/
def writeScnper (v : Byte) (s : State) : State :=
  s.inSetup .scnper fun s =>
    match ScanPeriod.ofCode v.toNat with
    | none => s.refuse .scnper .badValue
    | some p => { s with scan := { s.scan with period := p } }

/-! ### Registers written in every state -/

/-- A write of ASCP (R71). -/
def writeAscp (v : Byte) (s : State) : State :=
  match Scope.ofByte v with
  | none => s.refuse .ascp .badValue
  | some c => { s with panel := { s.panel with ascp := c } }

/-- A write of AGRD (R75). -/
def writeAgrd (v : Byte) (s : State) : State := { s with panel := { s.panel with agrd := v } }

/-- A write of PLOCK (R68). -/
def writePlock (v : Byte) (s : State) : State := { s with panel := { s.panel with plock := v.truncate 4 } }

/-- A write of GSEL (R52). -/
def writeGsel (v : Byte) (s : State) : State :=
  if h : v.toNat < 8 then { s with gsel := ⟨v.toNat, h⟩ } else s.refuse .gsel .badValue

/-- A write of DRADR (R122). -/
def writeDradr (v : Byte) (s : State) : State :=
  if h : v.toNat < 68 then { s with xfer := { s.xfer with dradr := ⟨v.toNat, h⟩ } } else s.refuse .dradr .badValue

/-- A write of XID (R125). -/
def writeXid (v : Byte) (s : State) : State := { s with xfer := { s.xfer with xid := v } }

/-- A write of RBADR (R133). -/
def writeRbadr (v : Byte) (s : State) : State :=
  if h : v.toNat < 68 then { s with xfer := { s.xfer with rbadr := ⟨v.toNat, h⟩ } } else s.refuse .rbadr .badValue

/-- A write of VSEL (R159). -/
def writeVsel (v : Byte) (s : State) : State :=
  if h : v.toNat < 4 then { s with tones := { s.tones with vsel := ⟨v.toNat, h⟩ } } else s.refuse .vsel .badValue

/-- A write of CHPAT (R156). -/
def writeChpat (v : Byte) (s : State) : State :=
  { s with tones :=
      { s.tones with chimePattern := Fin.ofNat 32 (bits v 0 5), chimePriority := Fin.ofNat 4 (bits v 6 2) } }

/-- A write of HTPAT (R158). -/
def writeHtpat (v : Byte) (s : State) : State :=
  if h : v.toNat < 32 then { s with tones := { s.tones with htpat := ⟨v.toNat, h⟩ } } else s.refuse .htpat .badValue

/-- A byte within the range a register takes. -/
def inRange (lo hi : Nat) (v : Byte) : Bool := decide (lo ≤ v.toNat) && decide (v.toNat ≤ hi)

/-- A write of LMPLV (R162). -/
def writeLmplv (v : Byte) (s : State) : State :=
  if inRange 1 8 v then { s with lamps := { s.lamps with lmplv := v } } else s.refuse .lmplv .badValue

/-- A write of TSTLV (R162). -/
def writeTstlv (v : Byte) (s : State) : State :=
  if inRange 1 8 v then { s with lamps := { s.lamps with tstlv := v } } else s.refuse .tstlv .badValue

/-- A write of ECCAP (R162). -/
def writeEccap (v : Byte) (s : State) : State :=
  if inRange 1 8 v then { s with lamps := { s.lamps with eccap := v } } else s.refuse .eccap .badValue

/-- A write of ECOLV (R170). -/
def writeEcolv (v : Byte) (s : State) : State :=
  if inRange 2 14 v then { s with supply := { s.supply with ecolv := v } } else s.refuse .ecolv .badValue

/-- A write of ECHYS (R170). -/
def writeEchys (v : Byte) (s : State) : State :=
  if inRange 1 3 v then { s with supply := { s.supply with echys := v } } else s.refuse .echys .badValue

/-- A write of EVMSK (R181). -/
def writeEvmsk (v : Byte) (s : State) : State := { s with evq := { s.evq with mask := v.truncate 4 } }

/-- A write of EVTHR (R180). -/
def writeEvthr (v : Byte) (s : State) : State :=
  if inRange 1 64 v then { s with evq := { s.evq with threshold := v } } else s.refuse .evthr .badValue

/-- A write of IEN0 or IEN1 (R198). -/
def writeIen (h : WhichByte) (v : Byte) (s : State) : State :=
  { s with irq := { s.irq with enables := putHalf s.irq.enables h v } }

/-- A write of ILV0 or ILV1 (R199). -/
def writeIlv (h : WhichByte) (v : Byte) (s : State) : State := { s with irq := s.irq.writeLevels h v }

/-! ### Command registers: the codes of chapter 11 -/

/-- A write of CCMD (R189). -/
def writeCcmd (v : Byte) (s : State) : State :=
  match v.toNat with
  | 1 => startCommand s
  | 2 => stopCommand s
  | 3 => holdCommand s
  | 4 => resumeCommand s
  | 5 => softresetCommand s
  | _ => s.refuseCommand .ccmd .badValue

/-- A write of PCMD (R41). -/
def writePcmd (v : Byte) (s : State) : State :=
  match v.toNat with
  | 1 => shelveCommand s
  | 2 => unshelveCommand s
  | _ => s.refuseCommand .pcmd .badValue

/-- A write of GCMD (R61). -/
def writeGcmd (v : Byte) (s : State) : State :=
  if v = 1 then rearmCommand s else s.refuseCommand .gcmd .badValue

/-- A write of ACTN (R72). -/
def writeActn (v : Byte) (s : State) : State :=
  match v.toNat with
  | 1 => actionCommand .ack s
  | 2 => actionCommand .silence s
  | 3 => actionCommand .reset s
  | 4 => actionCommand .testStart s
  | 5 => actionCommand .testEnd s
  | _ => s.refuseCommand .actn .badValue

/-- A write of XREQ (R126). -/
def writeXreq (v : Byte) (s : State) : State :=
  match v.toNat with
  | 1 => transferRequest .commitHeader s
  | 2 => transferRequest .commitSteps s
  | 3 => transferRequest .commitBoth s
  | 4 => transferRequest .fetch s
  | _ => s.refuseCommand .xreq .badValue

/-- A write of CHCTL: neither flag, STOP with or without START, or START alone (R156, R157). -/
def writeChctl (v : Byte) (s : State) : State :=
  if bits v 1 1 = 1 then chimeCommand true s
  else if bits v 0 1 = 1 then chimeCommand false s
  else s.refuseCommand .chctl .badValue

/-- A write of EVCMD (R184). -/
def writeEvcmd (v : Byte) (s : State) : State :=
  if v = 1 then flushCommand s else s.refuseCommand .evcmd .badValue

/-! ### Every register -/

/-- A write of a register; the read-only ones ignore it (R200). -/
def writeRegister (r : Reg) (v : Byte) (s : State) : State :=
  match r with
  | .ccmd => writeCcmd v s
  | .tdiv h => writeTdiv h v s
  | .elen => writeElen v s
  | .srole => writeSrole v s
  | .setl => writeSetl v s
  | .opts => writeOpts v s
  | .psel => writePsel v s
  | .pcf i => writePcf i v s
  | .pcmd => writePcmd v s
  | .shdur h => writeShdur h v s
  | .scnper => writeScnper v s
  | .ascp => writeAscp v s
  | .actn => writeActn v s
  | .agrd => writeAgrd v s
  | .plock => writePlock v s
  | .gsel => writeGsel v s
  | .gcmd => writeGcmd v s
  | .dradr => writeDradr v s
  | .drdat => accessDrdat (.write v) s
  | .xid => writeXid v s
  | .xreq => writeXreq v s
  | .rbadr => writeRbadr v s
  | .vcnt => writeVcnt v s
  | .vsel => writeVsel v s
  | .chpat => writeChpat v s
  | .chctl => writeChctl v s
  | .htpat => writeHtpat v s
  | .lmplv => writeLmplv v s
  | .tstlv => writeTstlv v s
  | .eccap => writeEccap v s
  | .ecolv => writeEcolv v s
  | .echys => writeEchys v s
  | .evcmd => writeEvcmd v s
  | .evmsk => writeEvmsk v s
  | .evthr => writeEvthr v s
  | .ics h => writeIcs h v s
  | .ien h => writeIen h v s
  | .ilv h => writeIlv h v s
  | .csts | .rfs0 | .rfs1 | .rclk _ | .cstat | .cycnt | .pst _ | .scnnum _ | .lout _ | .pbtn | .tsts | .gst _
  | .xstat0 | .xstat1 | .rbdat | .vst _ | .rqcnt | .sgst | .sglev | .ev _ | .evcnt | .evnxt0 | .evnxt1
  | .ivec | .evlat => s

/-- A write of an address; an unassigned one ignores it (R200). A write that has a row of its own acts as that
row's command (DEDUCED, safe; log 23). -/
def busWrite (a : BitVec 7) (v : Byte) (s : State) : State :=
  match regAt a with
  | none => s
  | some r => writeRegister r v s

/-- REGISTER_WRITE (R200). -/
def execRegisterWrite (a : BitVec 7) (v : Byte) (s : State) : Out := ran (busWrite a v) s

end Sys2Proof.Machine
end

