-- ==== Sys2Proof/Machine/Tick.lean ====
section
/-! DEFINITION. The tick of the run clock (chapter 5, R88, R89): what every block counts at it, and the events of
the tick before that the queue of commands did not list (log 4). -/

namespace Sys2Proof.Machine

/-! ### Overdue events (log 4) -/

/-- Every event that is still due is taken, in this order. Each is due at most once at one tick, so that none is
missed (DESIGN CHOICE, unsafe; log 4). -/
def State.takeDue (s : State) : State :=
  let shelves (t : State) : State := allPoints.foldl (fun t p => shelfExpiryStep p t) t
  let voices (f : VoiceId → State → State) (t : State) : State := (List.finRange 4).foldl (fun t v => f v t) t
  (supplySampleStep (voices envelopeDecayStep (voices stepBoundaryStep (fetchCompletionStep (commitCompletionStep
    (missStep (pulseStep (lineReleaseStep (eighthEndStep (testTimeoutStep (hornTestStep (buttonSampleStep []
      (shelves (settleEndStep (scanStep [] (initDoneStep s)))))))))))))))).lateAccess

/-! ### The tick -/

/-- The Timebase at a tick: the run clock, the divisor, the time into the eighth, and a FOLLOWER's sample of
CSYNC (R88, R89, R93, R98). -/
def Timebase.tick (t : Timebase) (runs csync : Bool) : Timebase :=
  { t with
    clock := t.clock + 1
    divisorInUse := t.tdiv
    intoEighth := if runs then t.intoEighth + 1 else t.intoEighth
    lowRun := if runs && decide (t.role = .follower) then t.lowRun.sampled csync else t.lowRun }

/-- The run clock is at a multiple of `period`. -/
def Timebase.atMultiple (t : Timebase) (period : Nat) : Bool := decide (t.clock.toNat % period = 0)

/-- A point's finite shelf counts in ACTIVE (R45). -/
def Point.shelfTick (x : Point) : Point := { x with seq := { x.seq with shelf := x.seq.shelf.tick } }

/-- Every block counts the tick; the lamp pins begin a drive period with the outputs decided so far (R166;
DEDUCED, unsafe; log 24). -/
def State.advance (s : State) (pins : Pins) : State :=
  let t := s.time.tick s.cadenceRuns pins.csync
  { s with
    pins := pins
    time := t
    scan := { s.scan with count := s.scan.count.map (· + 1) }
    points := if s.ctl.state = .active then s.points.map Point.shelfTick else s.points
    panel := { s.panel with sampleDue := t.atMultiple Config.buttonPeriod || s.panel.sampleDue }
    store := if s.ctl.state = .init then s.store.initWrite t.clock.toNat else s.store
    voices := s.voices.map (·.map Playing.tick)
    lamps := { s.lamps with drive := s.lampOuts }
    supply :=
      { s.supply with sampleDue := (s.cadenceRuns && t.atMultiple Config.supplyPeriod) || s.supply.sampleDue } }

/-- TICK: the events left over are taken, every block counts, and the Transfer Engine makes its access (R130). -/
def tickStep (pins : Pins) (late : Bool) (s : State) : State := (s.takeDue.advance pins).engineTick late

/-- TICK (R89). While the reset input is low the run clock holds 0, and only the pins' levels are taken (R196). -/
def execTick (pins : Pins) (late : Bool) (s : State) : Out :=
  .next (if s.resetLow then { s with pins := pins } else tickStep pins late s)

end Sys2Proof.Machine
end

