-- ==== Sys2Proof/Machine/Dispatch.lean ====
section
/-! DEFINITION. Every command to its meaning, one arm per constructor of Instr. -/

namespace Sys2Proof.Machine

def exec (i : Instr) (s : State) : Host.Outcome State Fault Refusal :=
  match i with
  | .powerOnReset => Sys2Proof.Machine.execPowerOnReset s
  | .hardwareReset => Sys2Proof.Machine.execHardwareReset s
  | .tick p late => Sys2Proof.Machine.execTick p late s
  | .initDone => Sys2Proof.Machine.execInitDone s
  | .start => Sys2Proof.Machine.execStart s
  | .stop => Sys2Proof.Machine.execStop s
  | .hold => Sys2Proof.Machine.execHold s
  | .resume => Sys2Proof.Machine.execResume s
  | .softreset => Sys2Proof.Machine.execSoftreset s
  | .scan order => Sys2Proof.Machine.execScan order s
  | .settleEnd => Sys2Proof.Machine.execSettleEnd s
  | .rearm => Sys2Proof.Machine.execRearm s
  | .shelve => Sys2Proof.Machine.execShelve s
  | .unshelve => Sys2Proof.Machine.execUnshelve s
  | .shelfExpiry point => Sys2Proof.Machine.execShelfExpiry point s
  | .buttonSample order => Sys2Proof.Machine.execButtonSample order s
  | .ack => Sys2Proof.Machine.execAck s
  | .silence => Sys2Proof.Machine.execSilence s
  | .reset => Sys2Proof.Machine.execReset s
  | .testStart => Sys2Proof.Machine.execTestStart s
  | .testEnd => Sys2Proof.Machine.execTestEnd s
  | .hornTestBegin => Sys2Proof.Machine.execHornTestBegin s
  | .testTimeout => Sys2Proof.Machine.execTestTimeout s
  | .eighthEnd => Sys2Proof.Machine.execEighthEnd s
  | .lineRelease => Sys2Proof.Machine.execLineRelease s
  | .pulseRecognised => Sys2Proof.Machine.execPulseRecognised s
  | .miss => Sys2Proof.Machine.execMiss s
  | .sroleWrite value => Sys2Proof.Machine.execSroleWrite value s
  | .tdivWrite half value => Sys2Proof.Machine.execTdivWrite half value s
  | .pselWrite value => Sys2Proof.Machine.execPselWrite value s
  | .pcfWrite index value => Sys2Proof.Machine.execPcfWrite index value s
  | .shdurWrite half value => Sys2Proof.Machine.execShdurWrite half value s
  | .commitHeader => Sys2Proof.Machine.execCommitHeader s
  | .commitSteps => Sys2Proof.Machine.execCommitSteps s
  | .commitBoth => Sys2Proof.Machine.execCommitBoth s
  | .fetch => Sys2Proof.Machine.execFetch s
  | .commitCompletion => Sys2Proof.Machine.execCommitCompletion s
  | .fetchCompletion => Sys2Proof.Machine.execFetchCompletion s
  | .drdatAccess access => Sys2Proof.Machine.execDrdatAccess access s
  | .rbdatRead => Sys2Proof.Machine.execRbdatRead s
  | .chimeStart => Sys2Proof.Machine.execChimeStart s
  | .chimeStop w => Sys2Proof.Machine.execChimeStop w s
  | .vcntWrite value => Sys2Proof.Machine.execVcntWrite value s
  | .stepBoundary voice => Sys2Proof.Machine.execStepBoundary voice s
  | .envelopeDecay voice => Sys2Proof.Machine.execEnvelopeDecay voice s
  | .supplySample => Sys2Proof.Machine.execSupplySample s
  | .ev0Read => Sys2Proof.Machine.execEv0Read s
  | .ev9Read => Sys2Proof.Machine.execEv9Read s
  | .flush => Sys2Proof.Machine.execFlush s
  | .icsWrite half value => Sys2Proof.Machine.execIcsWrite half value s
  | .scnnumLowRead => Sys2Proof.Machine.execScnnumLowRead s
  | .rclk0Read => Sys2Proof.Machine.execRclk0Read s
  | .cstatRead => Sys2Proof.Machine.execCstatRead s
  | .shelfSecondsLowRead => Sys2Proof.Machine.execShelfSecondsLowRead s
  | .gst3Read => Sys2Proof.Machine.execGst3Read s
  | .xstat0Read => Sys2Proof.Machine.execXstat0Read s
  | .vst0Read => Sys2Proof.Machine.execVst0Read s
  | .lout0Read => Sys2Proof.Machine.execLout0Read s
  | .sgstRead => Sys2Proof.Machine.execSgstRead s
  | .evnxt0Read => Sys2Proof.Machine.execEvnxt0Read s
  | .rfs0Read => Sys2Proof.Machine.execRfs0Read s
  | .registerWrite address value => Sys2Proof.Machine.execRegisterWrite address value s
  | .resetInputAsserted => Sys2Proof.Machine.execResetInputAsserted s
  | .holdPartnerByteRead partner => Sys2Proof.Machine.execHoldPartnerByteRead partner s

end Sys2Proof.Machine
end

