-- ==== Sys2Proof/WellFormed.lean ====
section
/-! DEFINITION. Which commands are written in their proper form. The machine gives every command its effect,
well formed or not; this says which spelling the table's rows have for one and the same event. -/

namespace Sys2Proof

/-- The addresses every write of which has a row of its own: TDIV, SROLE, PSEL, PCF0 to PCF8, SHDUR, DRDAT, VCNT,
ICS0 and ICS1 (chapter 11, Register Map). -/
def ownRowAddresses : List Nat :=
  [0x04, 0x05, 0x0B, 0x10, 0x11, 0x12, 0x13, 0x14, 0x15, 0x16, 0x17, 0x18, 0x19, 0x1F, 0x20, 0x39, 0x48, 0x68, 0x69]

/-- The command registers with the codes that have rows of their own: CCMD, PCMD, ACTN, GCMD, XREQ, EVCMD
(chapter 11, Command Codes). -/
def ownRowCodes : List (Nat × Nat) :=
  [(0x00, 1), (0x00, 2), (0x00, 3), (0x00, 4), (0x00, 5), (0x1E, 1), (0x1E, 2), (0x29, 1), (0x29, 2), (0x29, 3),
    (0x29, 4), (0x29, 5), (0x31, 1), (0x3B, 1), (0x3B, 2), (0x3B, 3), (0x3B, 4), (0x62, 1)]

/-- A write of CHCTL that carries START or STOP has a row of its own (R156, R157). -/
def chimeFlags (address value : Nat) : Bool := address == 0x4F && value % 4 != 0

/-- The write of a value to an address has a row of its own in the table. -/
def hasOwnRow (address : BitVec 7) (value : Byte) : Bool :=
  ownRowAddresses.contains address.toNat || ownRowCodes.contains (address.toNat, value.toNat) ||
    chimeFlags address.toNat value.toNat

/-- An order of taking names nothing twice. -/
def namesOnce {α : Type} [DecidableEq α] (order : List α) : Bool := decide order.Nodup

/-- The proper form of a command: orders name nothing twice, and REGISTER_WRITE is a write with no row of its own. -/
def Instr.wellFormed : Instr → Bool
  | .scan order => namesOnce order
  | .buttonSample order => namesOnce order
  | .registerWrite address value => !hasOwnRow address value
  | _ => true

end Sys2Proof
end

