-- ==== Sys2Proof/Safety.lean ====
section
/-! DEFINITION. What the part keeps at every step: the invariants the statements name, and the frame of a
command, that is what it may change. -/

namespace Sys2Proof.Machine

/-! ### Event Queue (chapter 10) -/

/-- The sequence numbers run consecutively from oldest to newest and end one below the counter (R178). -/
def EventQueue.Consecutive (q : EventQueue) : Prop :=
  ∀ i : Fin q.records.length, q.records[i].seq + BitVec.ofNat 16 (q.records.length - i.val) = q.seq

/-- The Event Queue: at most 64 records, consecutive numbers, a held latch only over a queue that is not empty,
and EVQNE set while it holds a record (R178, R182, R185). -/
def State.EventsKept (s : State) : Prop :=
  s.evq.records.length ≤ 64 ∧ s.evq.Consecutive ∧ (s.evq.latch.isSome → s.evq.records ≠ []) ∧
  (s.evq.records ≠ [] → s.irq.flag .evqne = true)

/-! ### Registers and counts -/

/-- A value between two bounds. -/
abbrev Within (lo hi n : Nat) : Prop := lo ≤ n ∧ n ≤ hi

/-- A reminder's exponent is 1 to 6 and its offset below 2^k (R2). -/
def Reminder.Legal (r : Reminder) : Prop := Within 1 6 r.exponent.toNat ∧ r.offset.toNat < 2 ^ r.exponent.toNat

/-- A finite shelf's seconds fit SHDUR's 16 bits, and its milliseconds are the part of a second (R40, R45). -/
def Shelf.Legal : Shelf → Prop
  | .none | .indefinite => True
  | .finite seconds ms => seconds ≤ 65535 ∧ ms ≤ 999

/-- Every register and count stays in the range its rule gives (R45, R66, R88, R91, R101, R143, R162, R170, R171,
R180). -/
def State.RangesKept (s : State) : Prop :=
  256 ≤ s.time.tdiv.toNat ∧ Within 50 250 s.time.elen.toNat ∧ Within 50 250 s.time.eighthLen.toNat ∧
  s.time.misses ≤ 2 ∧ Within 1 4 s.tones.vcnt.toNat ∧ Within 1 8 s.lamps.lmplv.toNat ∧
  Within 1 8 s.lamps.tstlv.toNat ∧ Within 1 8 s.lamps.eccap.toNat ∧ Within 2 14 s.supply.ecolv.toNat ∧
  Within 1 3 s.supply.echys.toNat ∧ s.supply.count1 ≤ 2 ∧ s.supply.count2 ≤ 2 ∧
  Within 1 64 s.evq.threshold.toNat ∧ (∀ b : Fin 4, s.panel.filters[b].changes ≤ 2) ∧
  (∀ p : PointId, ∀ r ∈ (s.point p).cfg.reminder, r.Legal) ∧
  ∀ p : PointId, (s.point p).seq.shelf.Legal

/-! ### Pattern Store and Transfer Engine (chapters 6 and 7) -/

/-- A valid header's repeat code is one of the sixteen, its count 1 to 32, its range within the table (R106, R107). -/
def ValidHeader.Legal (h : ValidHeader) : Prop :=
  Within 1 32 h.count ∧ h.first + h.count ≤ 256 ∧
  match h.rep with
  | .once | .loop => True
  | .count n => Within 2 15 n

/-- A step's level is 1 to 8 and its duration 1 to 255 (R110). -/
def Step.Legal (t : Step) : Prop := Within 1 8 t.level ∧ Within 1 255 t.duration

/-- A header is empty or legal. -/
def HeaderLegal (h : Header) : Prop := ∀ v ∈ h, v.Legal

/-- What an entry of the transfer queue holds is legal (R127, R128). -/
def Transfer.Legal : Transfer → Prop
  | .commitHeader h => HeaderLegal h
  | .commitSteps first steps => first + steps.length ≤ 256 ∧ ∀ t ∈ steps, t.Legal
  | .commitBoth h first steps => HeaderLegal h ∧ first + steps.length ≤ 256 ∧ ∀ t ∈ steps, t.Legal
  | .fetch _ => True

/-- The store holds legal values alone, and so do the at most four entries of the transfer queue (R105, R129). -/
def State.StoreLegal (s : State) : Prop :=
  (∀ p : PatternId, HeaderLegal (s.store.header p)) ∧ (∀ n : Fin 256, (s.store.steps[n]).Legal) ∧
  s.xfer.queue.length ≤ 4 ∧ ∀ e ∈ s.xfer.queue, e.transfer.Legal

/-- A PLAYING voice's record is within the ranges of R146. -/
def Playing.InRange (p : Playing) : Prop :=
  p.held.Legal ∧ p.latched.Legal ∧ p.stepIndex ≤ 31 ∧ p.remaining ≤ 2550 ∧ Within 1 8 p.envLevel ∧
  ∀ n ∈ p.passes, Within 1 16 n

/-- Every PLAYING voice's record is within the ranges of R146. -/
def State.VoicesInRange (s : State) : Prop := ∀ v : VoiceId, ∀ p ∈ s.voices[v], p.InRange

/-! ### Tone Allocator (chapter 8) -/

/-- A request's fields agree with its source and kind (the second table of R138). -/
def Request.Legal (r : Request) : Prop :=
  match r.source, r.kind with
  | .point _, .alarm | .point _, .ringback => r.rule = .header ∧ r.priority.isSome
  | .point _, .reminder => r.rule = .once ∧ r.priority.isSome
  | .chime, .chime => r.rule = .once ∧ r.priority.isSome
  | .horntest, .horntest => r.rule = .loop ∧ r.priority = none
  | _, _ => False

/-- At most one request for each source, each as the table of R138 gives it. -/
def State.RequestsKept (s : State) : Prop :=
  (s.tones.requests.map Request.source).Nodup ∧ ∀ r ∈ s.tones.requests, r.Legal

/-- The sounds PLAYING, in order of voice number. -/
def State.playingSounds (s : State) : List Sound := (soundsOf s.voices).filterMap id

/-- The three sentences of R144 that hold at all times: no more voices PLAYING than the limit, no two serving one
sound, each serving a sound that has a request; with the voice count in its range. -/
def State.VoicesKept (s : State) : Prop :=
  Within 1 4 s.tones.vcnt.toNat ∧ s.playingSounds.length ≤ s.voiceLimit ∧ s.playingSounds.Nodup ∧
  ∀ x ∈ s.playingSounds, x ∈ s.tones.requests.map Request.sound

/-- The entitled sounds: as many of the highest-ranked as the limit allows (R144). -/
def State.entitled (s : State) : List Sound := (rankedSounds s.tones.requests).take s.voiceLimit

/-- The PLAYING voices serve exactly the entitled sounds, one voice to each (R144). -/
def State.EntitledPlay (s : State) : Prop :=
  Within 1 4 s.tones.vcnt.toNat ∧ s.playingSounds.Nodup ∧ ∀ x, x ∈ s.playingSounds ↔ x ∈ s.entitled

/-! ### The run (chapters 1 to 4, 8, 11) -/

/-- What each controller state fixes of the run: settle timer and scanning (R8, R190), sequences, requests, groups
and tests (R21, R65, R81, R160), voices under a limit of 0, and the store's use in INIT (R118). -/
def State.RunKept (s : State) : Prop :=
  (s.ctl.settleStart.isSome ↔ s.ctl.state = .arming) ∧
  (s.scan.count.isSome ↔ (s.ctl.state = .arming ∨ s.ctl.state = .active)) ∧
  ((s.ctl.state = .init ∨ s.ctl.state = .setup) → ∀ p : PointId, (s.point p).qual = .clear) ∧
  ((s.ctl.state ≠ .active ∧ s.ctl.state ≠ .hold) →
    s.tones.requests = [] ∧ (∀ p : PointId, (s.point p).seq = .clear) ∧ ∀ g : GroupId, s.group g = .opened) ∧
  (s.panel.test.state ≠ .idle → s.ctl.state = .active) ∧
  (s.panel.test.state = .idle → s.panel.test.panelParty = false ∧ s.panel.test.hostParty = false) ∧
  (s.voiceLimit = 0 → s.playingSounds = []) ∧ Within 1 4 s.tones.vcnt.toNat ∧
  (s.store.init.isSome → s.ctl.state = .init) ∧ (s.ctl.state = .init → s.xfer.queue = [])

/-- The delay timer is IDLE exactly while field state and condition agree, and names the delay that is due
otherwise (R12); it runs outside HOLD and is frozen in it (R17, R18). -/
def Qual.TimerFits (q : Qual) (held : Bool) : Prop :=
  match q.timer with
  | .idle => q.abnormal = q.active
  | .running .onDelay _ => q.abnormal = true ∧ q.active = false ∧ held = false
  | .running .offDelay _ => q.abnormal = false ∧ q.active = true ∧ held = false
  | .frozen .onDelay _ => q.abnormal = true ∧ q.active = false ∧ held = true
  | .frozen .offDelay _ => q.abnormal = false ∧ q.active = true ∧ held = true

/-- Every point's qualification: clear while disabled (R6), the count below the debounce value (R11), the timer as
R12 gives. -/
def State.QualKept (s : State) : Prop :=
  ∀ p : PointId,
    ((s.point p).cfg.enabled = false → (s.point p).qual = .clear) ∧
    (s.point p).qual.agreement < (s.point p).cfg.debounce ∧
    (s.point p).qual.TimerFits (decide (s.ctl.state = .hold))

/-- A point's class, state and condition as the notes under R23 say they stand. -/
def Point.StateFits (x : Point) : Prop :=
  match x.seq.state, x.cfg.cls with
  | .normal, _ => True
  | .alarmUnack, .n => x.qual.active = true
  | .alarmUnack, _ => True
  | .alarmAck, .m => True
  | .alarmAck, _ => x.qual.active = true
  | .returnUnack, .r => x.qual.active = false
  | .returnUnack, _ => False

/-- The kinds of request a point may hold in each sequence state (R25 to R31). -/
def SeqState.MayHold (st : SeqState) (k : RequestKind) : Prop :=
  match st with
  | .alarmUnack => k = .alarm ∨ k = .reminder
  | .returnUnack => k = .ringback
  | .normal | .alarmAck => False

/-- Every point's sequence: clear while disabled (R6), in NORMAL without mark or flags while shelved (R42, R44),
silenced only where R36 allows, requests as R25 to R31 give, class and condition as R23 gives. -/
def State.SequencesKept (s : State) : Prop :=
  ∀ p : PointId,
    ((s.point p).cfg.enabled = false → (s.point p).seq = .clear) ∧
    ((s.point p).seq.shelf ≠ .none →
      (s.point p).seq.state = .normal ∧ (s.point p).seq.mark = .none ∧ (s.point p).seq.silenced = false ∧
        (s.point p).seq.toneDone = false) ∧
    ((s.point p).seq.silenced = true →
      (s.point p).seq.state = .alarmUnack ∨ (s.point p).seq.state = .returnUnack) ∧
    (s.point p).StateFits ∧
    ∀ r ∈ s.tones.requests, r.source = .point p → (s.point p).seq.state.MayHold r.kind

/-- The law of R59: a point that carries a mark is a member of a group in CAPTURED, and a group in OPEN has no
marked member; an OPEN group's capture scan is 0 (R50). -/
def State.MarksKept (s : State) : Prop :=
  (∀ p : PointId, (s.point p).seq.mark ≠ .none →
    (s.point p).cfg.enabled = true ∧ ∃ g : GroupId, (s.point p).cfg.group = some g ∧ (s.group g).captured = true) ∧
  ∀ g : GroupId, (s.group g).captured = false → (s.group g).captureScan = 0

/-! ### Timebase (chapter 5) -/

/-- CSYNC is pulled low by a LEADER alone (R96, R97); LOCKED and the low periods are a FOLLOWER's (R96 to R99); the
cadence stands at its start in INIT, in the role SOLO (R92, R96). -/
def State.SyncKept (s : State) : Prop :=
  (s.time.lineLowUntil.isSome → s.time.role = .leader) ∧ (s.time.sync = .locked → s.time.role = .follower) ∧
  (∀ n, s.time.lowRun = .counting n ∨ s.time.lowRun = .ended n → s.time.role = .follower) ∧
  (s.ctl.state = .init →
    s.time.role = .solo ∧ s.time.eighth = 0 ∧ s.time.intoEighth = 0 ∧ s.time.cycle = 0)

/-! ### Frames -/

/-- What the annunciation of points may change, and nothing else: the points' sequence fields, the groups, the
request list, the voices, the records and the cause flags. -/
def AnnunciationOnly (s t : State) : Prop :=
  t =
    { s with
      points := t.points
      groups := t.groups
      tones := { s.tones with requests := t.tones.requests, arrival := t.tones.arrival }
      voices := t.voices
      evq := { s.evq with records := t.evq.records, seq := t.evq.seq }
      irq := { s.irq with flags := t.irq.flags } } ∧
  ∀ p : PointId, (t.point p).cfg = (s.point p).cfg ∧ (t.point p).qual = (s.point p).qual

/-- The same with the test record (R81 to R87). -/
def AnnunciationAndTest (s t : State) : Prop :=
  AnnunciationOnly { s with panel := { s.panel with test := t.panel.test } } t

end Sys2Proof.Machine
end

