-- ==== Sys2Proof/Certificates/Slice0/Obligations.lean ====
section
/-! DEFINITION. The statements for the provers, family by family. Where a statement rests on a choice of the
model, its docstring names the log entry. -/

open Sys2Proof Sys2Proof.Machine

/-! ### The queue of commands -/

/-- For every command and state, the step of the state with the command at the front of its queue is exec of the
command on the state with the queue's rest. On an empty queue the block idles, which is the model's choice (log 2). -/
def Obligations.StepTakesFront : Prop :=
  (∀ (c : Instr) (s : State), step { s with pending := c :: s.pending } = exec c s) ∧
  ∀ s : State, s.pending = [] → step s = .next s

/-- Every command, in every state, is answered by a next state, never by a fault or a refusal of the model's, and
leaves the queue as it stands. Three of its readings are the model's own: an event sent when it is not due answers a
next state (DESIGN CHOICE, log 3), the queue of commands is no part of the block and is kept (DESIGN CHOICE, log 1), and
a command other than a reset is ignored while the reset input is low (DEDUCED, log 22). -/
def Obligations.EveryCommandAnswersNext : Prop :=
  ∀ (c : Instr) (s : State), ∃ t, exec c s = .next t ∧ t.pending = s.pending

/-! ### Resets (R196 and the reset values of the chapters) -/

/-- The values the chapters state for power-on reset, register by register. -/
def Obligations.ResetValues : Prop :=
  let r := State.reset
  -- R196, R197, R191, R190
  (r.ctl.state = .init ∧ r.ctl.settleStart = none ∧ r.ctl.setl = 20 ∧ r.ctl.quietStart = false ∧
    r.ctl.refAddr = 0 ∧ r.ctl.refReason = .none) ∧
  -- R88, R89, R91, R92, R96, chapter 5's table
  (r.time.tdiv = 2048 ∧ r.time.tdivStaging = 0 ∧ r.time.clock = 0 ∧ r.time.elen = 125 ∧ r.time.intoEighth = 0 ∧
    r.time.eighth = 0 ∧ r.time.cycle = 0 ∧ r.time.role = .solo ∧ r.time.sync = .free ∧ r.time.misses = 0 ∧
    r.time.lineLowUntil = none) ∧
  -- R1, R4, R7, R8, R9, R40
  (r.window.psel = 0 ∧ r.window.shdur = 0 ∧ r.window.shdurStaging = 0 ∧ r.window.onStaging = 0 ∧
    r.window.offStaging = 0 ∧ r.window.reminderStaging = 0 ∧ r.scan.period = .ms5 ∧ r.scan.number = 0 ∧
    r.scan.count = none) ∧
  -- R2, R19, R21
  (∀ p : PointId,
    (r.point p).cfg.enabled = false ∧ (r.point p).cfg.alarmLevel = .low ∧ (r.point p).cfg.debounce = 2 ∧
    (r.point p).cfg.cls = .l ∧ (r.point p).cfg.group = none ∧ (r.point p).cfg.priority = 0 ∧
    (r.point p).cfg.onDelay = 0 ∧ (r.point p).cfg.offDelay = 0 ∧ (r.point p).cfg.alarmPattern = none ∧
    (r.point p).cfg.ringbackPattern = none ∧ (r.point p).cfg.reminder = none ∧
    (r.point p).qual = { abnormal := false, agreement := 0, active := false, timer := .idle } ∧
    (r.point p).seq =
      { state := .normal, mark := .none, shelf := .none, silenced := false, toneDone := false, alarmTime := 0 }) ∧
  -- R50, R52
  (r.gsel = 0 ∧ ∀ g : GroupId, (r.group g).captured = false ∧ (r.group g).captureScan = 0) ∧
  -- R66, R68, R71, R75, R81
  ((∀ b : Fin 4, r.panel.filters[b] = { pressed := false, changes := 0 }) ∧ r.panel.plock = 0 ∧
    r.panel.ascp = .all ∧ r.panel.agrd = 0 ∧ r.panel.test.state = .idle ∧ r.panel.test.panelParty = false ∧
    r.panel.test.hostParty = false) ∧
  -- R116, R121, R122, R125, R129, R133
  (r.store.stepsInitialised = false ∧ r.store.init = some .full ∧ (∀ i : Fin 68, r.xfer.draft[i] = 0) ∧
    r.xfer.dradr = 0 ∧ r.xfer.xid = 0 ∧ r.xfer.queue = [] ∧ (∀ i : Fin 68, r.xfer.image[i] = 0) ∧
    r.xfer.rbadr = 0 ∧ r.xfer.replaced = false) ∧
  -- R138, R139, R143, R146, R156, R158, R159
  (r.tones.requests = [] ∧ r.tones.arrival = 0 ∧ r.tones.vcnt = 4 ∧ r.tones.chimePattern = 0 ∧
    r.tones.chimePriority = 0 ∧ r.tones.htpat = 0 ∧ r.tones.vsel = 0 ∧ ∀ v : VoiceId, r.voices[v] = none) ∧
  -- R162, R168, R169, R170
  (r.lamps.lmplv = 1 ∧ r.lamps.tstlv = 1 ∧ r.lamps.eccap = 5 ∧ (∀ p : PointId, r.lamps.drive[p] = none) ∧
    r.supply.state = .ok ∧ r.supply.last = 0 ∧ r.supply.count1 = 0 ∧ r.supply.count2 = 0 ∧ r.supply.ecolv = 6 ∧
    r.supply.echys = 2) ∧
  -- R187, R198, R199
  (r.evq.records = [] ∧ r.evq.seq = 0 ∧ r.evq.latch = none ∧ r.evq.mask = 0 ∧ r.evq.threshold = 48 ∧
    r.irq.flags = 0 ∧ r.irq.enables = 0 ∧ (∀ k : CauseCategory, r.irq.level k = 0) ∧ r.irq.threshold = 0) ∧
  -- R200
  ∀ b : Partner, r.holdOf b = { value := 0, follows := false }

/-- Power-on reset gives every block its reset values. The reset input low gives the hardware-reset values, and its
release begins a header initialisation with the mark set, a full one with it clear; the store's tables and the mark
are kept (R117). The model's own readings here: while the input is low every other command leaves the state as it
stands, and a tick takes the pins alone (DEDUCED, log 22); with the input low at power-on, the initialisation waits for
the release (DEDUCED, log 21); the store's tables after power-on, which the spec calls unknown (DESIGN CHOICE, log 8);
no byte on the data lines (DESIGN CHOICE, log 9); and the values no rule gives (DESIGN CHOICE, log 10). -/
def Obligations.ResetCommands : Prop :=
  (∀ s : State, s.resetLow = false →
    exec .powerOnReset s = .next { State.reset with pending := s.pending, pins := s.pins }) ∧
  (∀ s : State, s.resetLow = true →
    ∃ t, exec .powerOnReset s = .next t ∧ t.store.init = none ∧ t.resetLow = true ∧ t.store.stepsInitialised = false) ∧
  (∀ s : State, exec .resetInputAsserted s = .next
    { State.reset with pending := s.pending, pins := s.pins, resetLow := true, store := { s.store with init := none } }) ∧
  (∀ s : State, exec .hardwareReset s = .next
    { State.reset with
      pending := s.pending
      pins := s.pins
      store := { s.store with init := some (if s.store.stepsInitialised then .headers else .full) } }) ∧
  (∀ (c : Instr) (s : State), s.resetLow = true →
    c ≠ .powerOnReset → c ≠ .hardwareReset → c ≠ .resetInputAsserted → (∀ p l, c ≠ .tick p l) →
    exec c s = .next s) ∧
  ∀ (p : Pins) (l : Bool) (s : State), s.resetLow = true → exec (.tick p l) s = .next { s with pins := p }

/-! ### The tick (R88, R89) and the initialisation (R116, R117) -/

/-- At every tick the run clock goes up by 1, in every controller state, and the divisor, the eighth length and the
role stay as they are (R88, R89). -/
def Obligations.TickAdvancesClock : Prop :=
  ∀ (p : Pins) (l : Bool) (s : State), s.resetLow = false →
    ∃ t, exec (.tick p l) s = .next t ∧ t.time.clock = s.time.clock + 1 ∧ t.pins = p ∧
      t.time.divisorInUse = s.time.tdiv ∧ t.time.tdiv = s.time.tdiv ∧ t.time.elen = s.time.elen ∧
      t.time.role = s.time.role

/-- What each block counts at a tick at which nothing is overdue: the time into the eighth (R93), the scan period
(R8), finite shelves in ACTIVE (R45), the voices' remaining time and envelope count (R148, R149); the samples that
fall due (R66, R169); the lamp pins take the outputs decided so far (R166, log 24); nothing else of these blocks.
One millisecond of a shelf (R45): 999 ms and one more take a second off, an indefinite shelf does not count. -/
def Obligations.TickCounts : Prop :=
  (∀ (p : Pins) (l : Bool) (s : State), s.resetLow = false → s.takeDue = s →
     ∃ t, exec (.tick p l) s = .next t ∧
       t.time =
         { s.time with
           clock := s.time.clock + 1
           divisorInUse := s.time.tdiv
           intoEighth := s.time.intoEighth + (if s.ctl.state = .init then 0 else 1)
           lowRun := if s.ctl.state ≠ .init ∧ s.time.role = .follower then s.time.lowRun.sampled p.csync
             else s.time.lowRun } ∧
       t.scan = { s.scan with count := s.scan.count.map (· + 1) } ∧
       (∀ q : PointId, t.point q =
         if s.ctl.state = .active then
           { s.point q with seq := { (s.point q).seq with shelf := (s.point q).seq.shelf.tick } }
         else s.point q) ∧
       (∀ v : VoiceId, t.voices[v] = s.voices[v].map fun x =>
         { x with
           remaining := x.remaining - 1
           envCount := if x.held.envelope = .off then x.envCount else x.envCount + 1 }) ∧
       t.panel = { s.panel with
         sampleDue := decide ((s.time.clock + 1).toNat % 10 = 0) || s.panel.sampleDue } ∧
       t.supply = { s.supply with
         sampleDue := (decide (s.ctl.state ≠ .init) && decide ((s.time.clock + 1).toNat % 100 = 0)) ||
           s.supply.sampleDue } ∧
       (∀ q : PointId, t.lamps.drive[q] = s.lampOut q) ∧
       (t.lamps.lmplv = s.lamps.lmplv ∧ t.lamps.tstlv = s.lamps.tstlv ∧ t.lamps.eccap = s.lamps.eccap) ∧
       t.ctl = s.ctl ∧ t.window = s.window ∧ t.gsel = s.gsel ∧ t.groups = s.groups ∧ t.tones = s.tones ∧
       t.evq = s.evq ∧ t.irq = s.irq ∧ t.holds = s.holds ∧ t.dataOut = s.dataOut) ∧
  ((∀ seconds ms, ms + 1 < 1000 → Shelf.tick (.finite seconds ms) = .finite seconds (ms + 1)) ∧
   (∀ seconds, Shelf.tick (.finite seconds 999) = .finite (seconds - 1) 0) ∧
   Shelf.tick .indefinite = .indefinite ∧ Shelf.tick .none = .none ∧
   (∀ x : Shelf, x.expired = true ↔ ∃ ms, x = .finite 0 ms))

/-- The record an initialisation writes at each tick of INIT: header n − 1 at ticks n of 1 to 32, step n − 33 at
ticks 33 to 288 of a full initialisation, and nothing else of the store (R116, R117).
INIT_DONE once the last record is written (R116, R117): a full initialisation sets the mark, INIT is left for
SETUP with the cadence started and the staging bytes reloaded (R4, R92), a CONTROLLER record with reason INIT_DONE is
made and CTLSTATE is set (R196); nothing else changes. -/
def Obligations.Initialisation : Prop :=
  (∀ (p : Pins) (l : Bool) (s : State) (k : InitKind), s.resetLow = false → s.takeDue = s → s.ctl.state = .init →
     s.store.init = some k →
     (∀ i : Fin 32, (s.time.clock + 1).toNat = i.val + 1 →
       ∃ t, exec (.tick p l) s = .next t ∧ t.store = { s.store with headers := s.store.headers.set i none }) ∧
     (∀ i : Fin 256, k = .full → (s.time.clock + 1).toNat = i.val + 33 →
       ∃ t, exec (.tick p l) s = .next t ∧
         t.store = { s.store with steps := s.store.steps.set i { tone := none, level := 8, duration := 1 } })) ∧
  (∀ (s : State) (k : InitKind), s.resetLow = false → s.ctl.state = .init → s.store.init = some k →
     (k = .headers ∧ 32 ≤ s.time.clock.toNat ∨ k = .full ∧ 288 ≤ s.time.clock.toNat) →
     let c := (s.point s.window.psel).cfg
     exec .initDone s = .next (({ s with
       ctl := { s.ctl with state := .setup }
       store := { s.store with init := none, stepsInitialised := s.store.stepsInitialised || decide (k = InitKind.full) }
       time := { s.time with eighthLen := s.time.elen }
       window :=
         { s.window with onStaging := c.toByte 2, offStaging := c.toByte 4, reminderStaging := c.toByte 7 } }.record
       .controller none 0 1).setCause .ctlstate))

/-! ### Controller commands (R189 to R195) -/

/-- START in SETUP: the settle timer starts, ARMING, scanning starts, a CONTROLLER record and CTLSTATE (R190). -/
def Obligations.StartEntersArming : Prop :=
  ∀ s : State, s.resetLow = false → s.ctl.state = .setup →
    exec .start s = .next (({ s with
      ctl := { s.ctl with state := .arming, settleStart := some s.time.clock }
      scan := { s.scan with count := some 0 } }.record .controller none (1 + 16 * 1) 2).setCause .ctlstate)

/-- STOP in ARMING, ACTIVE or HOLD: the run state is cleared, SETUP is entered with the staging bytes reloaded, a
CONTROLLER record and CTLSTATE (R194). With no test running this is the whole of it. With one running in ACTIVE, the
test ends first (R87): the HORNTEST request goes if the horn test has joined, an ACTION record is made with code
TEST_END, source INTERNAL, scope ALL and the number of enabled points, and TESTEND is set; the rest is as above, so
that the ACTION record precedes the CONTROLLER record. The ended test keeps its start and press times (DEDUCED,
log 26). -/
def Obligations.StopClearsRun : Prop :=
  let cleared (s : State) : State :=
    let c := (s.point s.window.psel).cfg
    ({ s with
      ctl := { s.ctl with state := .setup, settleStart := none }
      scan := { s.scan with count := none }
      window :=
        { s.window with onStaging := c.toByte 2, offStaging := c.toByte 4, reminderStaging := c.toByte 7 }
      points := s.points.map Point.cleared
      groups := Vector.replicate 8 .opened
      tones := { s.tones with requests := [], arrival := 0 }
      voices := Vector.replicate 4 none }.record .controller none (s.ctl.state.code + 16 * 3) 1).setCause .ctlstate
  (∀ s : State, s.resetLow = false →
    (s.ctl.state = .arming ∨ s.ctl.state = .hold ∨ s.ctl.state = .active ∧ s.panel.test.state = .idle) →
    exec .stop s = .next (cleared s)) ∧
  (∀ s : State, s.resetLow = false → s.ctl.state = .active → s.panel.test.state ≠ .idle →
    let w : State := if s.panel.test.state = .lampAndHornTest then s.withdraw .horntest else s
    exec .stop s = .next (cleared (({ w with panel := { w.panel with
      test := { s.panel.test with state := .idle, panelParty := false, hostParty := false } } }.record .action none
        (5 + 32 * 2) s.enabledCount).setCause .testend))) ∧
  ∀ s : State, s.resetLow = false → s.ctl.state = .active → s.panel.test.state ≠ .idle →
    let c := (s.point s.window.psel).cfg
    ∃ t, exec .stop s = .next t ∧ t.ctl = { s.ctl with state := .setup, settleStart := none } ∧
      t.scan = { s.scan with count := none } ∧
      t.window =
        { s.window with onStaging := c.toByte 2, offStaging := c.toByte 4, reminderStaging := c.toByte 7 } ∧
      (∀ p : PointId, t.point p = { s.point p with qual := .clear, seq := .clear }) ∧
      (∀ g : GroupId, t.group g = { captured := false, captureScan := 0 }) ∧
      t.tones = { s.tones with requests := [], arrival := 0 } ∧ (∀ v : VoiceId, t.voices[v] = none) ∧
      t.panel = { s.panel with
        test := { s.panel.test with state := .idle, panelParty := false, hostParty := false } } ∧
      t.irq.flag .testend = true ∧ t.irq.flag .ctlstate = true ∧
      t.time = s.time ∧ t.store = s.store ∧ t.xfer = s.xfer ∧ t.supply = s.supply ∧ t.lamps = s.lamps ∧
      t.evq.latch = s.evq.latch ∧ t.holds = s.holds

/-- HOLD in ACTIVE: the test ends, HOLD is entered, scanning stops, running delays freeze with their elapsed time
(R17), every voice is IDLE, CTLSTATE is set (R193). With no test running and no shelf counted out, the requests stay
and the one record made is the CONTROLLER record. With no shelf counted out, the third clause gives the whole of it:
a running test ends with its INTERNAL TEST_END record and TESTEND (R87), keeping its start and press times (DEDUCED,
log 26), HOLD is entered, an occasion is taken if the limit falls, and the CONTROLLER record comes last. A shelf that
has counted out at this tick expires first (DEDUCED, log 19). -/
def Obligations.HoldFreezes : Prop :=
  (∀ s : State, s.resetLow = false → s.ctl.state = .active → s.RunKept →
    ∃ t, exec .hold s = .next t ∧ t.ctl = { s.ctl with state := .hold } ∧ t.scan = { s.scan with count := none } ∧
      t.panel.test.state = .idle ∧ t.playingSounds = [] ∧ t.irq.flag .ctlstate = true ∧
      (∀ p : PointId, (t.point p).seq.shelf.expired = false ∧ (t.point p).cfg = (s.point p).cfg ∧
        (t.point p).qual =
          { (s.point p).qual with
            timer := match (s.point p).qual.timer with
              | .running k start => .frozen k (s.time.clock - start)
              | other => other }) ∧
      t.time = s.time ∧ t.store = s.store ∧ t.xfer = s.xfer ∧ t.supply = s.supply ∧ t.window = s.window ∧
      t.evq.latch = s.evq.latch ∧ t.holds = s.holds) ∧
  (∀ s : State, s.resetLow = false → s.ctl.state = .active → s.RunKept → s.panel.test.state = .idle →
    (∀ p : PointId, (s.point p).seq.shelf.expired = false) →
    ∃ t, exec .hold s = .next t ∧ t.tones = s.tones ∧ t.groups = s.groups ∧ t.panel = s.panel ∧
      (∀ p : PointId, (t.point p).seq = (s.point p).seq) ∧
      t.evq = (s.record .controller none (3 + 16 * 4) 4).evq ∧
      t.irq = ((s.record .controller none (3 + 16 * 4) 4).setCause .ctlstate).irq) ∧
  ∀ s : State, s.resetLow = false → s.ctl.state = .active → (∀ p : PointId, (s.point p).seq.shelf.expired = false) →
    let w : State := if s.panel.test.state = .lampAndHornTest then s.withdraw .horntest else s
    let e : State :=
      if s.panel.test.state = .idle then s
      else ({ w with panel := { w.panel with
        test := { s.panel.test with state := .idle, panelParty := false, hostParty := false } } }.record .action none
          (5 + 32 * 2) s.enabledCount).setCause .testend
    let h : State := { e with
      ctl := { e.ctl with state := .hold }
      scan := { e.scan with count := none }
      points := e.points.map fun x =>
        { x with qual :=
          { x.qual with
            timer := match x.qual.timer with
              | .running k start => .frozen k (s.time.clock - start)
              | other => other } } }
    exec .hold s = .next (((if h.voiceLimit = e.voiceLimit then h else h.allocate).record .controller none
      (3 + 16 * 4) 4).setCause .ctlstate)

/-- RESUME in HOLD: agreement counts are 0, frozen delays run again from the present time less their elapsed time
(R18), ACTIVE is entered, scanning starts, an occasion is taken if the limit rises, and last the CONTROLLER record is
made and CTLSTATE set (R193). No group changes (R65), and of a point's sequence fields tone done alone may, where the
occasion finds a pattern missing; no request is posted (R160). -/
def Obligations.ResumeThaws : Prop :=
  ∀ s : State, s.resetLow = false → s.ctl.state = .hold →
    let u := { s with
      ctl := { s.ctl with state := .active }
      scan := { s.scan with count := some 0 }
      points := s.points.map fun x =>
        { x with qual :=
          { x.qual with
            agreement := 0
            timer := match x.qual.timer with
              | .frozen k e => .running k (s.time.clock - e)
              | other => other } } }
    let a : State := if u.voiceLimit = 0 then u else u.allocate
    ∃ t, exec .resume s = .next t ∧ t = (a.record .controller none (4 + 16 * 5) 3).setCause .ctlstate ∧
      t.irq.flag .ctlstate = true ∧ AnnunciationOnly u t ∧ t.groups = s.groups ∧ t.tones.arrival = s.tones.arrival ∧
      (∀ r ∈ t.tones.requests, r ∈ s.tones.requests) ∧
      (∀ p : PointId, (t.point p).seq = { (s.point p).seq with toneDone := (t.point p).seq.toneDone }) ∧
      (s.evq.masked .controller = false →
        ∃ r ∈ t.evq.records.getLast?, r.kind = .controller ∧ r.time = s.time.clock ∧ r.point = none ∧
          r.source = byte (4 + 16 * 5) ∧ r.detail = 3)

/-- SOFTRESET outside INIT: the transfer queue is abandoned, with its record if an entry was lost (R136), the read
latch released, the run state cleared, the supply state OK with counts 0, every cause flag cleared but EVQNE and those
the CONTROLLER record and CTLSTATE set, SETUP entered (R195). The second clause gives the records for a state with no
test running. The third gives the whole of it in every state, step by step as R195 orders: a running test ends with its
INTERNAL TEST_END record (R87; it keeps its start and press times, DEDUCED, log 26), the queue is abandoned, the flags
are cleared but EVQNE over a queue that is not empty, and EVQNE, EVQTH and EVQOV are then as the CONTROLLER record's
insertion sets them. -/
def Obligations.SoftresetClears : Prop :=
  (∀ s : State, s.resetLow = false → s.ctl.state ≠ .init →
    ∃ t, exec .softreset s = .next t ∧ t.ctl = { s.ctl with state := .setup, settleStart := none } ∧
      t.scan = { s.scan with count := none } ∧
      (∀ p : PointId, t.point p = { s.point p with qual := .clear, seq := .clear }) ∧
      (∀ g : GroupId, t.group g = { captured := false, captureScan := 0 }) ∧
      t.tones = { s.tones with requests := [], arrival := 0 } ∧ (∀ v : VoiceId, t.voices[v] = none) ∧
      t.xfer = { s.xfer with queue := [], accessDue := false } ∧ t.evq.latch = none ∧
      t.supply = { s.supply with state := .ok, count1 := 0, count2 := 0 } ∧
      t.irq.flag .ctlstate = true ∧
      (∀ c ∈ [Cause.alarm, .return, .shelfexp, .action, .testend, .xdone, .rbrdy, .supply, .sync, .patmiss, .refused],
        t.irq.flag c = false) ∧
      t.irq = { s.irq with flags := t.irq.flags } ∧
      t.time = s.time ∧ t.store = s.store ∧ t.lamps = s.lamps ∧ t.holds = s.holds) ∧
  (∀ s : State, s.resetLow = false → s.ctl.state ≠ .init →
    (s.ctl.state = .active → s.panel.test.state = .idle) →
    ∃ t, exec .softreset s = .next t ∧
      t.evq = { (match s.xfer.queue with
        | [] => s.evq
        | e :: rest =>
          (s.record .transferAbandoned (some e.id) (e.transfer.request.code + 8 * bit e.progress.isSome)
            (rest.length + 1)).evq) with latch := none }.offer .controller s.time.clock none
        (byte (s.ctl.state.code + 16 * 6)) 1) ∧
  ∀ s : State, s.resetLow = false → s.ctl.state ≠ .init →
    let w : State := if s.panel.test.state = .lampAndHornTest then s.withdraw .horntest else s
    let e : State :=
      if s.ctl.state = .active ∧ s.panel.test.state ≠ .idle then
        ({ w with panel := { w.panel with
          test := { s.panel.test with state := .idle, panelParty := false, hostParty := false } } }.record .action none
            (5 + 32 * 2) s.enabledCount).setCause .testend
      else s
    let a : State := match s.xfer.queue with
      | [] => e
      | x :: rest => e.record .transferAbandoned (some x.id) (x.transfer.request.code + 8 * bit x.progress.isSome)
        (rest.length + 1)
    let c := (s.point s.window.psel).cfg
    let u : State := { a with
      ctl := { s.ctl with state := .setup, settleStart := none }
      scan := { s.scan with count := none }
      window :=
        { s.window with onStaging := c.toByte 2, offStaging := c.toByte 4, reminderStaging := c.toByte 7 }
      points := s.points.map Point.cleared
      groups := Vector.replicate 8 .opened
      tones := { s.tones with requests := [], arrival := 0 }
      voices := Vector.replicate 4 none
      xfer := { s.xfer with queue := [], accessDue := false }
      supply := { s.supply with state := .ok, count1 := 0, count2 := 0 }
      evq := { a.evq with latch := none }
      irq := { a.irq with flags := if a.evq.records = [] then 0 else a.irq.flags &&& 0x20 } }
    ∃ t, exec .softreset s = .next t ∧
      t = (u.record .controller none (s.ctl.state.code + 16 * 6) 1).setCause .ctlstate ∧
      (∀ k : Cause, k ≠ .ctlstate → k ≠ .evqne → t.irq.flag k = (!u.evq.masked .controller && decide (
        k = .evqov ∧ 64 ≤ u.evq.records.length ∨
          k = .evqth ∧ u.evq.threshold.toNat ≤ min (u.evq.records.length + 1) 64))) ∧
      (s.EventsKept → (t.irq.flag .evqne = true ↔ t.evq.records ≠ []))

/-- Commands in states that do not accept them are refused with WRONG_STATE (R41, R61, R72, R126, R156, R189).
What a refusal does (R197): the refusal record takes address and reason, REFUSED is set, nothing else changes;
for a command a REFUSAL record is made with the address in its source and scope part and the reason as its detail. -/
def Obligations.Refusals : Prop :=
  (∀ s : State, s.resetLow = false →
     (s.ctl.state ≠ .setup → exec .start s = .next (s.refuseCommand .ccmd .wrongState)) ∧
     ((s.ctl.state = .init ∨ s.ctl.state = .setup) → exec .stop s = .next (s.refuseCommand .ccmd .wrongState)) ∧
     (s.ctl.state ≠ .active → exec .hold s = .next (s.refuseCommand .ccmd .wrongState)) ∧
     (s.ctl.state ≠ .hold → exec .resume s = .next (s.refuseCommand .ccmd .wrongState)) ∧
     (s.ctl.state = .init → exec .softreset s = .next (s.refuseCommand .ccmd .wrongState)) ∧
     (s.ctl.state ≠ .active →
       (∀ c ∈ [Instr.ack, .silence, .reset, .testStart, .testEnd],
         exec c s = .next (s.refuseCommand .actn .wrongState)) ∧
       (∀ c ∈ [Instr.shelve, .unshelve], exec c s = .next (s.refuseCommand .pcmd .wrongState)) ∧
       exec .rearm s = .next (s.refuseCommand .gcmd .wrongState) ∧
       (∀ c ∈ [Instr.chimeStart, .chimeStop false, .chimeStop true],
         exec c s = .next (s.refuseCommand .chctl .wrongState))) ∧
     (s.ctl.state = .init → ∀ c ∈ [Instr.commitHeader, .commitSteps, .commitBoth, .fetch],
       exec c s = .next (s.refuseCommand .xreq .wrongState))) ∧
  (∀ (s : State) (r : Reg) (why : Reason),
     s.refuse r why =
       { s with
         ctl := { s.ctl with refAddr := BitVec.ofNat 7 r.address, refReason := why }
         irq := { s.irq with flags := s.irq.flags ||| 0x4000 } } ∧
     s.refuseCommand r why = (s.refuse r why).record .refusal none r.address why.code ∧
     (s.refuse r why).presentByte .rfs0 = byte r.address ∧ (s.refuse r why).presentByte .rfs1 = byte why.code)

/-! ### Points: debounce, delays, scans (R10 to R15, R192) -/

/-- Debounce (R11) with the table of R12: an agreeing sample clears the count, a disagreeing one adds 1, and the one
that reaches the debounce value flips the field state and starts or cancels the delay. A disabled point's sample is
discarded (R6).
The examination of a running delay at a scan (R13, R14): once the elapsed time, modulo 2^32, is at least the
setting times 10 ms, the condition changes, the timer is IDLE and the event is produced; else the timer runs on. -/
def Obligations.QualificationRules : Prop :=
  ((∀ (q : Qual) (c : PointConfig) (sample : Bool) (now : Clock),
     (sample = q.abnormal → q.debounced c sample now = { q with agreement := 0 }) ∧
     (sample ≠ q.abnormal → q.agreement + 1 ≠ c.debounce →
       q.debounced c sample now = { q with agreement := q.agreement + 1 }) ∧
     (sample ≠ q.abnormal → q.agreement + 1 = c.debounce →
       q.debounced c sample now =
         { abnormal := sample, agreement := 0, active := q.active
           timer :=
             if sample = true ∧ q.active = false then .running .onDelay now
             else if sample = false ∧ q.active = true then .running .offDelay now
             else .idle })) ∧
   (∀ (x : Machine.Point) (high : Bool) (now : Clock), x.cfg.enabled = true →
     x.scanned high now =
       (x.qual.debounced x.cfg (decide (high = decide (x.cfg.alarmLevel = .high))) now).examined x.cfg now) ∧
   ∀ (x : Machine.Point) (high : Bool) (now : Clock), x.cfg.enabled = false → x.scanned high now = (x.qual, none)) ∧
  (∀ (q : Qual) (c : PointConfig) (now start : Clock),
     (q.timer = .running .onDelay start → c.onDelay.toNat * 10 ≤ (now - start).toNat →
       q.examined c now = ({ q with active := true, timer := .idle }, some .alarm)) ∧
     (q.timer = .running .offDelay start → c.offDelay.toNat * 10 ≤ (now - start).toNat →
       q.examined c now = ({ q with active := false, timer := .idle }, some .return)) ∧
     (q.timer = .running .onDelay start → (now - start).toNat < c.onDelay.toNat * 10 → q.examined c now = (q, none)) ∧
     (q.timer = .running .offDelay start → (now - start).toNat < c.offDelay.toNat * 10 → q.examined c now = (q, none)) ∧
     (q.timer = .idle → q.examined c now = (q, none)))

/-- A scan that is due, other than the settle-end scan (R8 to R10, R15): the scan number advances, the period count
begins anew, every point's qualification is as its sample makes it. In ARMING nothing else changes; in ACTIVE the
events handed on change only what annunciation may change.
The events of a scan in ACTIVE are handed to their points' sequences one after the other, an alarm with the scan's
number (R10, R15, R55): first the points the command's order names, each once and in that order, then the rest in
ascending number (log 6). With one event it is that event alone, with none the scan alone. -/
def Obligations.ScanResult : Prop :=
  (∀ (order : List PointId) (s : State) (n : Nat), s.resetLow = false →
     (s.ctl.state = .arming ∨ s.ctl.state = .active) → s.scan.count = some n → s.scan.period.ticks ≤ n →
     s.settleEndDue = false →
     let u := { s with
       scan := { s.scan with count := some 0, number := s.scan.number + 1 }
       points := Vector.ofFn fun p : PointId =>
         ({ s.point p with qual := ((s.point p).scanned (s.pins.inputs.getLsbD p) s.time.clock).1 } : Machine.Point) }
     ∃ t, exec (.scan order) s = .next t ∧ AnnunciationOnly u t ∧ (s.ctl.state = .arming → t = u)) ∧
  (∀ (order : List PointId) (s : State) (n : Nat), s.resetLow = false → s.ctl.state = .active →
     s.scan.count = some n → s.scan.period.ticks ≤ n →
     let ev (p : PointId) := ((s.point p).scanned (s.pins.inputs.getLsbD p) s.time.clock).2
     let u := { s with
       scan := { s.scan with count := some 0, number := s.scan.number + 1 }
       points := Vector.ofFn fun p : PointId =>
         ({ s.point p with qual := ((s.point p).scanned (s.pins.inputs.getLsbD p) s.time.clock).1 } : Machine.Point) }
     exec (.scan order) s = .next ((order.eraseDups ++ (List.finRange 32).filter fun p => decide (p ∉ order)).foldl
       (fun w p => match ev p with
         | none => w
         | some .alarm => w.applyAlarm p (s.scan.number + 1)
         | some .return => w.applyReturn p) u) ∧
     ((∀ p, ev p = none) → exec (.scan order) s = .next u) ∧
     ∀ p : PointId, (∀ q, q ≠ p → ev q = none) →
       (ev p = some .alarm → exec (.scan order) s = .next (u.applyAlarm p (s.scan.number + 1))) ∧
       (ev p = some .return → exec (.scan order) s = .next (u.applyReturn p)))

/-- The settle-end scan (R192): every point is scanned; a standing point, enabled with its condition ACTIVE, enters
ALARM_ACK with no mark and alarm time 0 under quiet start, and ALARM_UNACK with this scan's time otherwise; every
other point stays in NORMAL; the controller is then ACTIVE with the settle timer cleared and CTLSTATE set.
The whole of it, in R192's order: the standing points in ascending number, each with a STANDING record under quiet
start and else as an alarm that carries this scan's number; the state; the CONTROLLER record with reason SETTLE_END and
CTLSTATE; and the occasion of the rising limit. No record but PATTERN_MISSING follows the CONTROLLER record. -/
def Obligations.SettleEndAnnounces : Prop :=
  ∀ (s : State) (n : Nat) (start : Clock), s.resetLow = false → s.ctl.state = .arming → s.scan.count = some n →
    s.scan.period.ticks ≤ n → s.ctl.settleStart = some start →
    s.ctl.setl.toNat * 100 ≤ (s.time.clock - start).toNat → s.RunKept →
    ∃ t, exec .settleEnd s = .next t ∧
      t.ctl = { s.ctl with state := .active, settleStart := none } ∧
      t.scan = { s.scan with count := some 0, number := s.scan.number + 1 } ∧ t.irq.flag .ctlstate = true ∧
      (∀ p : PointId, (t.point p).cfg = (s.point p).cfg ∧
        (t.point p).qual = ((s.point p).scanned (s.pins.inputs.getLsbD p) s.time.clock).1 ∧
        (((s.point p).cfg.enabled = true ∧ (t.point p).qual.active = true) →
          (s.ctl.quietStart = true → (t.point p).seq = { Seq.clear with state := .alarmAck }) ∧
          (s.ctl.quietStart = false → (t.point p).seq.state = .alarmUnack ∧
            (t.point p).seq.alarmTime = s.time.clock ∧ (t.point p).seq.silenced = false ∧
            t.irq.flag .alarm = true)) ∧
        (¬((s.point p).cfg.enabled = true ∧ (t.point p).qual.active = true) → (t.point p).seq = .clear)) ∧
      (s.ctl.quietStart = true → t.tones = s.tones ∧ t.groups = s.groups) ∧
      t.time = s.time ∧ t.panel = s.panel ∧ t.store = s.store ∧ t.xfer = s.xfer ∧ t.supply = s.supply ∧
      t.window = s.window ∧ t.holds = s.holds ∧
      let scanned (p : PointId) : Qual := ((s.point p).scanned (s.pins.inputs.getLsbD p) s.time.clock).1
      let number := s.scan.number + 1
      let u := { s with
        scan := { s.scan with count := some 0, number := number }
        points := Vector.ofFn fun p : PointId => ({ s.point p with qual := scanned p } : Machine.Point) }
      let v : State := ((List.finRange 32).filter fun p : PointId => (s.point p).cfg.enabled && (scanned p).active).foldl
        (fun w p =>
          if s.ctl.quietStart then
            (w.modSeq p fun a => { a with state := .alarmAck }).record .standing (some p) 0 (number.toNat % 256)
          else w.applyAlarm p number) u
      let w := ({ v with ctl := { s.ctl with state := .active, settleStart := none } }.record .controller none
        (2 + 16 * 2) 3).setCause .ctlstate
      t = (if w.voiceLimit = 0 then w else w.allocate) ∧
      (((∀ p : PatternId, (s.store.headers[p]).isSome = true) ∨ s.ctl.quietStart = true) → t.evq = w.evq)

/-! ### Sequences (chapter 2) -/

/-- The table of R23, but for its "does not arise" entries. `c` is the class, `active` the condition. -/
def Obligations.SequenceTable : Prop :=
  (∀ c active, nextMove c .normal .alarm active = .go .alarmUnack ∧ nextMove c .normal .return active = .stay ∧
    nextMove c .normal .ack active = .stay ∧ nextMove c .normal .reset active = .stay) ∧
  (∀ active, nextMove .l .alarmUnack .alarm active = .reannounce ∧
    nextMove .m .alarmUnack .alarm active = .reannounce ∧ nextMove .r .alarmUnack .alarm active = .reannounce) ∧
  (∀ active, nextMove .n .alarmUnack .return active = .go .normal ∧ nextMove .l .alarmUnack .return active = .stay ∧
    nextMove .m .alarmUnack .return active = .stay ∧ nextMove .r .alarmUnack .return active = .stay) ∧
  (∀ c, nextMove c .alarmUnack .ack true = .go .alarmAck) ∧
  (nextMove .l .alarmUnack .ack false = .go .normal ∧ nextMove .m .alarmUnack .ack false = .go .alarmAck ∧
    nextMove .r .alarmUnack .ack false = .go .returnUnack) ∧
  (∀ c active, nextMove c .alarmUnack .reset active = .stay ∧ nextMove c .alarmAck .ack active = .stay) ∧
  (∀ active, nextMove .m .alarmAck .alarm active = .stay) ∧
  (∀ active, nextMove .n .alarmAck .return active = .go .normal ∧ nextMove .l .alarmAck .return active = .go .normal ∧
    nextMove .m .alarmAck .return active = .stay ∧ nextMove .r .alarmAck .return active = .go .returnUnack) ∧
  (nextMove .m .alarmAck .reset false = .go .normal ∧ ∀ c, nextMove c .alarmAck .reset true = .stay) ∧
  ∀ active, nextMove .r .returnUnack .alarm active = .go .alarmUnack ∧
    nextMove .r .returnUnack .ack active = .stay ∧ nextMove .r .returnUnack .reset active = .go .normal

/-- Alarm qualifies at a sequence (R26, R27, R32, R44, R53): a shelved point makes an ALARM record alone, class M in
ALARM_ACK a record of NO_CHANGE; otherwise the point is in ALARM_UNACK with this time, not silenced, its mark as the
Group Table assigns it, ALARM set, the ALARM record last; and no other point's sequence changes but for tone done.
A point with an alarm pattern posts an ALARM request under HEADER at its priority with the next arrival number, in
place of one it held (R25, R26); with no pattern missing it is then the tail of the list. A GROUP_CAPTURE record is
directly followed by the ALARM record of the same point, whether or not a pattern is missing (R54): where one is made
(`captured`), the occasion of the posting comes after the ALARM record, otherwise at the posting (DESIGN CHOICE, log
29). A point with none posts nothing, and from RETURN_UNACK its request goes (R28). -/
def Obligations.AlarmEntry : Prop :=
  ∀ (s : State) (p : PointId) (n : Half),
    let x := s.point p
    (x.seq.shelf ≠ .none →
      s.applyAlarm p n = s.record .alarm (some p) 0 (3 + 4 * x.seq.state.code + 16 * x.seq.mark.code)) ∧
    (x.seq.shelf = .none → x.seq.state = .alarmAck → x.cfg.cls = .m →
      s.applyAlarm p n = s.record .alarm (some p) 0 (2 + 4 * 2 + 16 * x.seq.mark.code)) ∧
    (x.seq.shelf = .none →
      (x.seq.state = .normal ∨ x.seq.state = .alarmUnack ∧ x.cfg.cls ≠ .n ∨
        x.seq.state = .returnUnack ∧ x.cfg.cls = .r) →
      let t := s.applyAlarm p n
      let captured : Prop := s.evq.mask.getLsbD Kind.groupCapture.category.index = false ∧
        ∃ g ∈ x.cfg.group,
          (s.group g).captured = false ∨ (s.group g).captureScan = n ∧ x.seq.mark ≠ .first
      (t.point p).seq.state = .alarmUnack ∧ (t.point p).seq.alarmTime = s.time.clock ∧
      (t.point p).seq.silenced = false ∧ (t.point p).seq.shelf = .none ∧
      (t.point p).seq.mark = ((s.assignMark p n).point p).seq.mark ∧
      t.irq.flag .alarm = true ∧ AnnunciationOnly s t ∧
      (∀ q : PointId, q ≠ p →
        (t.point q).seq = { (s.point q).seq with toneDone := (t.point q).seq.toneDone }) ∧
      (s.evq.masked .alarm = false →
        (¬captured ∨ x.cfg.alarmPattern = none ∨ ∀ i : PatternId, (s.store.headers[i]).isSome = true) →
        ∃ r ∈ t.evq.records.getLast?, r.kind = .alarm ∧ r.time = s.time.clock ∧ r.point = some p ∧ r.source = 0 ∧
          r.detail = byte ((if x.seq.state = .alarmUnack then 1 else 0) + 4 * 1 + 16 * (t.point p).seq.mark.code)) ∧
      (x.cfg.alarmPattern = none → t.tones.arrival = s.tones.arrival ∧
        (x.seq.state = .returnUnack → t.holdsRequest (.point p) = false)) ∧
      ∀ pattern : PatternId, x.cfg.alarmPattern = some pattern →
        let u := (s.modSeq p fun a =>
          { a with state := .alarmUnack, alarmTime := s.time.clock, silenced := false, toneDone := false }).assignMark p n
        let detail := (if x.seq.state = .alarmUnack then 1 else 0) + 4 * 1 + 16 * (u.point p).seq.mark.code
        let r : Request :=
          { source := .point p, kind := .alarm, pattern := pattern, rule := .header
            priority := some x.cfg.priority, arrival := s.tones.arrival }
        (¬captured →
          t = ((u.post (.point p) .alarm pattern .header (some x.cfg.priority)).record .alarm (some p) 0
            detail).setCause .alarm) ∧
        let listed : State := { u with
          tones :=
            { s.tones with
              requests := (s.tones.requests.filter fun q => decide (q.source ≠ .point p)) ++ [r]
              arrival := s.tones.arrival + 1 }
          voices := s.voices.map fun v => v.map fun y : Playing =>
            if y.sound.pattern = pattern ∧ y.sound.rule = .header then
              { y with passes := match y.passes, y.held.rep with
                | none, _ => none
                | some _, .once => some 2
                | some _, .count k => some (k + 1)
                | some _, .loop => none }
            else y }
        (captured →
          t = ((listed.record .alarm (some p) 0 detail).allocate).setCause .alarm ∧
          (s.evq.masked .alarm = false →
            ∃ before c a, (u.record .alarm (some p) 0 detail).evq.records = before ++ [c, a] ∧
              c.kind = .groupCapture ∧ c.point = some p ∧ c.detail = byte (n.toNat % 256) ∧
              a.kind = .alarm ∧ a.point = some p ∧ a.seq = c.seq + 1)) ∧
        t.tones.arrival = s.tones.arrival + 1 ∧
        ((∀ i : PatternId, (s.store.headers[i]).isSome = true) →
          t.tones.requests = (s.tones.requests.filter fun q => decide (q.source ≠ .point p)) ++ [r] ∧
          t.evq = (u.record .alarm (some p) 0 detail).evq))

/-- Return qualifies at a sequence (R30 to R33, R44): a shelved point and a point whose state the table keeps make a
RETURN record alone; class N leaves ALARM_UNACK or ALARM_ACK, and class L ALARM_ACK, for NORMAL, class R ALARM_ACK for
RETURN_UNACK, with RETURN set; and no other point's sequence state changes.
Entering NORMAL, the request held in ALARM_UNACK is withdrawn first, then the RETURN record with outcome ENTERED is
made, RETURN set and the rearm check asked for (R28, R31). Entering RETURN_UNACK, a point with a ringback pattern posts
a RINGBACK request under HEADER at its priority with the next arrival number, then the RETURN record with outcome
ENTERED is made and RETURN set (R30). -/
def Obligations.ReturnEntry : Prop :=
  ∀ (s : State) (p : PointId),
    let x := s.point p
    (x.seq.shelf ≠ .none →
      s.applyReturn p = s.record .return (some p) 0 (3 + 4 * x.seq.state.code + 16 * x.seq.mark.code)) ∧
    (x.seq.shelf = .none →
      (x.seq.state = .normal ∨ x.seq.state = .alarmUnack ∧ x.cfg.cls ≠ .n ∨ x.seq.state = .alarmAck ∧ x.cfg.cls = .m) →
      s.applyReturn p = s.record .return (some p) 0 (2 + 4 * x.seq.state.code + 16 * x.seq.mark.code)) ∧
    (x.seq.shelf = .none →
      (x.cfg.cls = .n ∧ (x.seq.state = .alarmUnack ∨ x.seq.state = .alarmAck) ∨
        x.cfg.cls = .l ∧ x.seq.state = .alarmAck ∨ x.cfg.cls = .r ∧ x.seq.state = .alarmAck) →
      let t := s.applyReturn p
      (t.point p).seq.state = (if x.cfg.cls = .r then .returnUnack else .normal) ∧
      (x.seq.state = .alarmUnack → (t.point p).seq.silenced = false) ∧
      t.irq.flag .return = true ∧ AnnunciationOnly s t ∧
      (∀ q : PointId, q ≠ p → (t.point q).seq.state = (s.point q).seq.state ∧
        (t.point q).seq.silenced = (s.point q).seq.silenced ∧ (t.point q).seq.shelf = (s.point q).seq.shelf) ∧
      (x.cfg.cls ≠ .r →
        let w := (if x.seq.state = .alarmUnack then s.withdraw (.point p) else s).modSeq p fun a =>
          { a with
            state := .normal
            toneDone := false
            silenced := if x.seq.state = .alarmUnack then false else a.silenced }
        t = ((w.record .return (some p) 0 (0 + 4 * 0 + 16 * x.seq.mark.code)).setCause .return).rearmCheck p ∧
        (x.seq.state = .alarmUnack → t.holdsRequest (.point p) = false)) ∧
      (x.cfg.cls = .r →
        let u := s.modSeq p fun a => { a with state := .returnUnack, toneDone := false }
        let finish (w : State) : State :=
          (w.record .return (some p) 0 (0 + 4 * 3 + 16 * x.seq.mark.code)).setCause .return
        (x.cfg.ringbackPattern = none → t = finish u) ∧
        ∀ pattern : PatternId, x.cfg.ringbackPattern = some pattern →
          let r : Request :=
            { source := .point p, kind := .ringback, pattern := pattern, rule := .header
              priority := some x.cfg.priority, arrival := s.tones.arrival }
          t = finish (u.post (.point p) .ringback pattern .header (some x.cfg.priority)) ∧
          t.tones.arrival = s.tones.arrival + 1 ∧
          ((∀ i : PatternId, (s.store.headers[i]).isSome = true) →
            t.tones.requests = (s.tones.requests.filter fun q => decide (q.source ≠ .point p)) ++ [r])))

/-- The indication of a point (R37), and the lamp output after the four overlays (R163, R165). -/
def Obligations.LampOutputs : Prop :=
  (∀ x : Machine.Point, x.cfg.enabled = true → x.seq.shelf = .none →
    (x.seq.state = .normal → x.indication = .off) ∧
    (x.seq.state = .alarmUnack → x.indication = if x.seq.mark = .first then .double else .fast) ∧
    (x.seq.state = .alarmAck → x.indication = if x.seq.mark = .first then .wink else .steady) ∧
    (x.seq.state = .returnUnack → x.indication = .slow)) ∧
  (∀ x : Machine.Point, (x.cfg.enabled = false ∨ x.seq.shelf ≠ .none) → x.indication = .off) ∧
  (∀ e : BitVec 3,
    Indication.lit .off e = false ∧ Indication.lit .steady e = true ∧
    Indication.lit .fast e = decide (e = 0 ∨ e = 2 ∨ e = 4 ∨ e = 6) ∧
    Indication.lit .slow e = decide (e = 0 ∨ e = 1 ∨ e = 2 ∨ e = 3) ∧
    Indication.lit .double e = decide (e = 0 ∨ e = 2) ∧ Indication.lit .wink e = decide (e ≠ 7)) ∧
  ∀ (s : State) (p : PointId),
    (s.ctl.state ≠ .active → s.panel.test.state = .idle → s.lampOut p = none) ∧
    (s.supply.state = .blackout → s.lampOut p = none) ∧
    (s.ctl.state = .active → s.panel.test.state = .idle → s.supply.state = .ok →
      s.lampOut p = if (s.point p).indication.lit s.time.eighth then some s.lamps.lmplv.toNat else none) ∧
    (s.panel.test.state ≠ .idle → s.supply.state = .ok →
      s.lampOut p = if (s.point p).cfg.enabled then some s.lamps.tstlv.toNat else none) ∧
    (s.supply.state = .economy → s.lampOut p =
      ({ s with supply := { s.supply with state := .ok } }.lampOut p).map (max s.lamps.eccap.toNat))

/-! ### Shelving (R41 to R48) -/

/-- SHELVE in ACTIVE for an enabled point (R42, R43). A point not shelved before is shelved by SHDUR, in NORMAL,
without mark, silenced flag, tone done or request, RETURN set if it was elsewhere, no other point's state changed. The
whole of it, in R42's order: the request is withdrawn, the point changed, the SHELVE record made with the state left,
and, where that was not NORMAL, RETURN set and the rearm check asked for. A shelved point has its shelf restarted and a
record made. A disabled point is refused with DISABLED_POINT (R41). -/
def Obligations.ShelveCommand : Prop :=
  ∀ s : State, s.resetLow = false → s.ctl.state = .active →
    let p := s.window.psel
    let x := s.point p
    let shelf : Shelf := if s.window.shdur = 0 then .indefinite else .finite s.window.shdur.toNat 0
    (x.cfg.enabled = false → exec .shelve s = .next (s.refuseCommand .pcmd .disabledPoint)) ∧
    (x.cfg.enabled = true → x.seq.shelf ≠ .none →
      exec .shelve s = .next ((s.modSeq p fun a => { a with shelf := shelf }).record .shelve (some p) 0
        (bit (s.window.shdur = 0) + 2 * 1 + 4 * 0))) ∧
    (x.cfg.enabled = true → x.seq.shelf = .none →
      ∃ t, exec .shelve s = .next t ∧
        (t.point p).seq =
          { state := .normal, mark := .none, shelf := shelf, silenced := false, toneDone := false
            alarmTime := x.seq.alarmTime } ∧
        t.holdsRequest (.point p) = false ∧ (x.seq.state ≠ .normal → t.irq.flag .return = true) ∧
        AnnunciationOnly s t ∧
        (∀ q : PointId, q ≠ p → (t.point q).seq.state = (s.point q).seq.state ∧
          (t.point q).seq.shelf = (s.point q).seq.shelf ∧ (t.point q).seq.silenced = (s.point q).seq.silenced) ∧
        (let r : State := ((s.withdraw (.point p)).modSeq p fun a =>
            { a with state := .normal, mark := .none, silenced := false, toneDone := false, shelf := shelf }).record
              .shelve (some p) 0 (bit (s.window.shdur = 0) + 2 * 0 + 4 * x.seq.state.code)
         (x.seq.state = .normal → t = r) ∧
         (x.seq.state ≠ .normal → t = (r.setCause .return).rearmCheck p)) ∧
        (x.seq.state = .normal → s.holdsRequest (.point p) = false →
          t = (s.modSeq p fun a =>
            { a with state := .normal, mark := .none, silenced := false, toneDone := false, shelf := shelf }).record
              .shelve (some p) 0 (bit (s.window.shdur = 0))))

/-- UNSHELVE and the expiry of a shelf (R46 to R48): the point becomes not shelved, an UNSHELVE record is made, after
SHELFEXP for an expiry, and a standing condition is applied as an alarm with the most recent scan's number. UNSHELVE of
an enabled point that is not shelved changes nothing; of a disabled one it is refused. -/
def Obligations.UnshelveAndExpiry : Prop :=
  (∀ s : State, s.resetLow = false → s.ctl.state = .active →
    let p := s.window.psel
    let x := s.point p
    let u := (s.modSeq p fun a => { a with shelf := .none }).record .unshelve (some p) 0 0
    (x.cfg.enabled = false → exec .unshelve s = .next (s.refuseCommand .pcmd .disabledPoint)) ∧
    (x.cfg.enabled = true → x.seq.shelf = .none → exec .unshelve s = .next s) ∧
    (x.cfg.enabled = true → x.seq.shelf ≠ .none →
      exec .unshelve s = .next (if x.qual.active then u.applyAlarm p s.scan.number else u))) ∧
  ∀ (s : State) (p : PointId) (ms : Nat), s.resetLow = false → s.ctl.state = .active →
    (s.point p).seq.shelf = .finite 0 ms →
    let u := ((s.modSeq p fun a => { a with shelf := .none }).setCause .shelfexp).record .unshelve (some p) 0 1
    exec (.shelfExpiry p) s = .next (if (s.point p).qual.active then u.applyAlarm p s.scan.number else u)

/-! ### First-out groups (chapter 3) -/

/-- The table of R53 with the records of R54, for a point of group `g`; a point whose group is NONE keeps its mark.
Rearm (R58 to R61): the marks of the group go, it is OPEN with capture scan 0, and a GROUP_REARM record counts
the marks cleared. REARM does this for a CAPTURED group, and makes its record with count 0 for an OPEN one; the
automatic check does it for a CAPTURED group all of whose members are in NORMAL, and nothing otherwise. -/
def Obligations.GroupRules : Prop :=
  (∀ (s : State) (p : PointId) (n : Half),
     ((s.point p).cfg.group = none → s.assignMark p n = s) ∧
     ∀ g : GroupId, (s.point p).cfg.group = some g →
       let mark (u : State) (m : Mark) := u.modSeq p fun a => { a with mark := m }
       ((s.group g).captured = false →
         s.assignMark p n =
           (mark { s with groups := s.groups.set g { captured := true, captureScan := n } } .first).record
             .groupCapture (some p) (g + 8 * 0) (n.toNat % 256)) ∧
       ((s.group g).captured = true → (s.group g).captureScan = n → (s.point p).seq.mark ≠ .first →
         s.assignMark p n = (mark s .first).record .groupCapture (some p) (g + 8 * 1) (n.toNat % 256)) ∧
       ((s.group g).captured = true → (s.group g).captureScan ≠ n → (s.point p).seq.mark = .none →
         s.assignMark p n = mark s .subsequent) ∧
       ((s.group g).captured = true →
         ((s.point p).seq.mark = .first ∨ (s.group g).captureScan ≠ n ∧ (s.point p).seq.mark = .subsequent) →
         s.assignMark p n = s)) ∧
  (let rearmed (s : State) (g : GroupId) (trigger : Option PointId) (cause : Nat) : State :=
     { s with
       points := s.points.map fun x : Machine.Point =>
         if x.cfg.group = some g then { x with seq := { x.seq with mark := .none } } else x
       groups := s.groups.set g { captured := false, captureScan := 0 } }.record .groupRearm trigger (g + 8 * cause)
         ((s.marked g .first).length + (s.marked g .subsequent).length)
   (∀ s : State, s.resetLow = false → s.ctl.state = .active →
     ((s.group s.gsel).captured = true → exec .rearm s = .next (rearmed s s.gsel none 1)) ∧
     ((s.group s.gsel).captured = false →
       exec .rearm s = .next (s.record .groupRearm none (s.gsel + 8 * 1) 0))) ∧
   ∀ (s : State) (p : PointId) (g : GroupId), (s.point p).cfg.group = some g →
     (((s.group g).captured = true ∧ ∀ q : PointId, s.member g q = true → (s.point q).seq.state = .normal) →
       s.rearmCheck p = rearmed s g (some p) 0) ∧
     (((s.group g).captured = false ∨ ∃ q : PointId, s.member g q = true ∧ (s.point q).seq.state ≠ .normal) →
       s.rearmCheck p = s))

/-! ### Operator actions and the panel (chapter 4) -/

/-- ACK from the host (R72 to R76). A point in scope, in ALARM_UNACK, whose age meets the guard, takes the ACK
transition by its condition and class; every other point keeps its sequence state; the last record is the ACTION
record with the number of points changed; the frame. With a disabled point as its scope it is refused.
A point taken to ALARM_ACK or NORMAL holds no request; one taken to NORMAL or RETURN_UNACK sets RETURN; one taken to
RETURN_UNACK posts RINGBACK in place of its request if it has a ringback pattern, and holds none otherwise (R28, R30).
The whole of it: the points in scope in ascending number, each as the last clause says, then the ACTION record with
source HOST, the scope and the count. At one point: it passes over a point that is not in ALARM_UNACK or whose age does
not meet the guard; it withdraws the request, or replaces it by RINGBACK, makes the transition, and sets RETURN for
RETURN_UNACK and NORMAL, where the rearm check, with its GROUP_REARM record, follows (R28 to R31, R58). -/
def Obligations.AckResult : Prop :=
  ∀ s : State, s.resetLow = false → s.ctl.state = .active →
    (s.scopeDisabled = true → exec .ack s = .next (s.refuseCommand .actn .disabledPoint)) ∧
    (s.scopeDisabled = false →
      ∃ t, exec .ack s = .next t ∧
        (∀ p : PointId,
          let x := s.point p
          let taken := s.inScope s.panel.ascp p = true ∧ x.seq.state = .alarmUnack ∧
            s.panel.agrd.toNat * 10 ≤ (s.time.clock - x.seq.alarmTime).toNat
          (taken → x.qual.active = true → (t.point p).seq.state = .alarmAck) ∧
          (taken → x.qual.active = false → x.cfg.cls = .l → (t.point p).seq.state = .normal) ∧
          (taken → x.qual.active = false → x.cfg.cls = .m → (t.point p).seq.state = .alarmAck) ∧
          (taken → x.qual.active = false → x.cfg.cls = .r → (t.point p).seq.state = .returnUnack) ∧
          ((t.point p).seq.state ≠ x.seq.state → (t.point p).seq.silenced = false) ∧
          (¬taken → (t.point p).seq.state = x.seq.state ∧ (t.point p).seq.silenced = x.seq.silenced) ∧
          (t.point p).seq.shelf = x.seq.shelf ∧ (t.point p).seq.alarmTime = x.seq.alarmTime) ∧
        (s.evq.masked .action = false →
          ∃ r ∈ t.evq.records.getLast?, r.kind = .action ∧ r.time = s.time.clock ∧
            r.point = s.panel.ascp.pointPart ∧ r.source = byte (1 + 8 * s.panel.ascp.kindCode + 32 * 1) ∧
            r.detail = byte (allPoints.filter fun p =>
              decide ((t.point p).seq.state ≠ (s.point p).seq.state)).length) ∧
        AnnunciationOnly s t ∧
        (∀ p : PointId, s.inScope s.panel.ascp p = true → (s.point p).seq.state = .alarmUnack →
          ((t.point p).seq.state = .alarmAck ∨ (t.point p).seq.state = .normal → t.holdsRequest (.point p) = false) ∧
          ((t.point p).seq.state = .normal ∨ (t.point p).seq.state = .returnUnack → t.irq.flag .return = true) ∧
          ((t.point p).seq.state = .returnUnack →
            ((s.point p).cfg.ringbackPattern = none → t.holdsRequest (.point p) = false) ∧
            ∀ pattern : PatternId, (s.point p).cfg.ringbackPattern = some pattern →
              (∀ i : PatternId, (s.store.headers[i]).isSome = true) →
              ∃ r ∈ t.tones.requests, r.source = .point p ∧ r.kind = .ringback ∧ r.pattern = pattern ∧
                r.rule = .header ∧ r.priority = some (s.point p).cfg.priority)) ∧
        (let r := ((List.finRange 32).filter fun p => s.inScope s.panel.ascp p).foldl
            (fun w p => ((ackPoint w.1 p).1, w.2 + bit (ackPoint w.1 p).2)) (s, 0)
         t = r.1.record .action s.panel.ascp.pointPart (1 + 8 * s.panel.ascp.kindCode + 32 * 1) r.2)) ∧
    (∀ p : PointId, s.inScope .all p = (s.point p).cfg.enabled ∧
      (∀ g : GroupId, s.inScope (.group g) p = ((s.point p).cfg.enabled && decide ((s.point p).cfg.group = some g))) ∧
      ∀ q : PointId, s.inScope (.point q) p = ((s.point p).cfg.enabled && decide (p = q))) ∧
    ∀ p : PointId,
      let x := s.point p
      let met := x.seq.state = .alarmUnack ∧ s.panel.agrd.toNat * 10 ≤ (s.time.clock - x.seq.alarmTime).toNat
      let w := s.withdraw (.point p)
      (¬met → ackPoint s p = (s, false)) ∧
      (met → (x.qual.active = true ∨ x.cfg.cls = .m) →
        ackPoint s p = (w.modSeq p fun a => { a with state := .alarmAck, silenced := false }, true)) ∧
      (met → x.qual.active = false → x.cfg.cls = .l →
        ackPoint s p = (((w.modSeq p fun a =>
          { a with state := .normal, silenced := false, toneDone := false }).setCause .return).rearmCheck p, true)) ∧
      (met → x.qual.active = false → x.cfg.cls = .r →
        (x.cfg.ringbackPattern = none →
          ackPoint s p = ((w.modSeq p fun a =>
            { a with state := .returnUnack, silenced := false, toneDone := false }).setCause .return, true)) ∧
        ∀ pattern : PatternId, x.cfg.ringbackPattern = some pattern →
          ackPoint s p =
            (((s.modSeq p fun a => { a with state := .returnUnack, silenced := false, toneDone := false }).post
              (.point p) .ringback pattern .header (some x.cfg.priority)).setCause .return, true))

/-- SILENCE from the host (R77): a point in scope in ALARM_UNACK or RETURN_UNACK is silenced and holds no request;
no other point's flag changes, and no sequence state, mark or alarm time changes; the frame. The whole of it: the
points in scope in ascending number, each as the last clause says, then the ACTION record with source HOST, the scope
and the count (R74). A point counts if its flag changed or its request was withdrawn: with no header empty, the detail
is the number of such points as they stood before. -/
def Obligations.SilenceResult : Prop :=
  ∀ s : State, s.resetLow = false → s.ctl.state = .active →
    (s.scopeDisabled = true → exec .silence s = .next (s.refuseCommand .actn .disabledPoint)) ∧
    (s.scopeDisabled = false →
      ∃ t, exec .silence s = .next t ∧
        (∀ p : PointId,
          let x := s.point p
          let taken := s.inScope s.panel.ascp p = true ∧ (x.seq.state = .alarmUnack ∨ x.seq.state = .returnUnack)
          (taken → (t.point p).seq.silenced = true ∧ t.holdsRequest (.point p) = false) ∧
          (¬taken → (t.point p).seq.silenced = x.seq.silenced) ∧
          (t.point p).seq.state = x.seq.state ∧ (t.point p).seq.mark = x.seq.mark ∧
          (t.point p).seq.shelf = x.seq.shelf ∧ (t.point p).seq.alarmTime = x.seq.alarmTime) ∧
        (s.evq.masked .action = false →
          ∃ r ∈ t.evq.records.getLast?, r.kind = .action ∧ r.time = s.time.clock ∧
            r.point = s.panel.ascp.pointPart ∧ r.source = byte (2 + 8 * s.panel.ascp.kindCode + 32 * 1) ∧
            ((∀ i : PatternId, (s.store.headers[i]).isSome = true) →
              r.detail = byte (allPoints.filter fun p => s.inScope s.panel.ascp p &&
                (decide ((s.point p).seq.state = .alarmUnack) || decide ((s.point p).seq.state = .returnUnack)) &&
                (!(s.point p).seq.silenced || s.holdsRequest (.point p))).length)) ∧
        AnnunciationOnly s t ∧
        (let r := ((List.finRange 32).filter fun p => s.inScope s.panel.ascp p).foldl
            (fun w p => ((silencePoint w.1 p).1, w.2 + bit (silencePoint w.1 p).2)) (s, 0)
         t = r.1.record .action s.panel.ascp.pointPart (2 + 8 * s.panel.ascp.kindCode + 32 * 1) r.2)) ∧
    ∀ p : PointId,
      let x := s.point p
      ((x.seq.state = .alarmUnack ∨ x.seq.state = .returnUnack) →
        silencePoint s p = ((s.withdraw (.point p)).modSeq p fun a => { a with silenced := true },
          !x.seq.silenced || s.holdsRequest (.point p))) ∧
      ((x.seq.state = .normal ∨ x.seq.state = .alarmAck) → silencePoint s p = (s, false))

/-- RESET from the host (R80): a class M point in scope in ALARM_ACK whose condition is CLEAR, and a class R point in
RETURN_UNACK, go to NORMAL with RETURN set; every other point keeps its state; the ACTION record counts; the frame.
The whole of it: the points in scope in ascending number, each as the last clause says, then the ACTION record. At one
point the request held in RETURN_UNACK is withdrawn, the point enters NORMAL, RETURN is set, and the rearm check with
its GROUP_REARM record follows (R28, R31, R58), so that this record stands before the ACTION record. -/
def Obligations.ResetResult : Prop :=
  ∀ s : State, s.resetLow = false → s.ctl.state = .active →
    (s.scopeDisabled = true → exec .reset s = .next (s.refuseCommand .actn .disabledPoint)) ∧
    (s.scopeDisabled = false →
      ∃ t, exec .reset s = .next t ∧
        (∀ p : PointId,
          let x := s.point p
          let taken := s.inScope s.panel.ascp p = true ∧
            (x.cfg.cls = .m ∧ x.seq.state = .alarmAck ∧ x.qual.active = false ∨
              x.cfg.cls = .r ∧ x.seq.state = .returnUnack)
          (taken → (t.point p).seq.state = .normal ∧ t.irq.flag .return = true) ∧
          (taken → x.seq.state = .returnUnack →
            (t.point p).seq.silenced = false ∧ t.holdsRequest (.point p) = false) ∧
          (¬taken → (t.point p).seq.state = x.seq.state ∧ (t.point p).seq.silenced = x.seq.silenced) ∧
          (t.point p).seq.shelf = x.seq.shelf ∧ (t.point p).seq.alarmTime = x.seq.alarmTime) ∧
        (s.evq.masked .action = false →
          ∃ r ∈ t.evq.records.getLast?, r.kind = .action ∧ r.time = s.time.clock ∧
            r.point = s.panel.ascp.pointPart ∧ r.source = byte (3 + 8 * s.panel.ascp.kindCode + 32 * 1) ∧
            r.detail = byte (allPoints.filter fun p =>
              decide ((t.point p).seq.state ≠ (s.point p).seq.state)).length) ∧
        AnnunciationOnly s t ∧
        (let r := ((List.finRange 32).filter fun p => s.inScope s.panel.ascp p).foldl
            (fun w p => ((resetPoint w.1 p).1, w.2 + bit (resetPoint w.1 p).2)) (s, 0)
         t = r.1.record .action s.panel.ascp.pointPart (3 + 8 * s.panel.ascp.kindCode + 32 * 1) r.2)) ∧
    ∀ p : PointId,
      let x := s.point p
      (x.cfg.cls = .m → x.seq.state = .alarmAck → x.qual.active = false →
        resetPoint s p = (((s.modSeq p fun a =>
          { a with state := .normal, toneDone := false }).setCause .return).rearmCheck p, true)) ∧
      (x.cfg.cls = .r → x.seq.state = .returnUnack →
        resetPoint s p = ((((s.withdraw (.point p)).modSeq p fun a =>
          { a with state := .normal, silenced := false, toneDone := false }).setCause .return).rearmCheck p, true)) ∧
      (¬(x.cfg.cls = .m ∧ x.seq.state = .alarmAck ∧ x.qual.active = false ∨
          x.cfg.cls = .r ∧ x.seq.state = .returnUnack) → resetPoint s p = (s, false))

/-- TEST_START and TEST_END from the host (R82, R83, R85). Starting an idle test and joining a running one change the
test record and make an ACTION record, counting the enabled points at a start; ending makes its record and sets
TESTEND, after withdrawing the HORNTEST request; ending an idle test makes a record of count 0 alone. That a start by
the host keeps the press time, and an ended test its start and press times, is the model's reading (DEDUCED, log 26).
HORN_TEST_BEGIN and TEST_TIMEOUT when they are due (R84, R86): after 3000 ms of a held press the HORNTEST request
is posted with HTPAT and LOOP; after 60000 ms the test ends with a TEST_TIMEOUT record naming its parties and TESTEND. -/
def Obligations.PanelTests : Prop :=
  (∀ s : State, s.resetLow = false → s.ctl.state = .active →
     let test (u : State) (x : TestRecord) : State := { u with panel := { u.panel with test := x } }
     (s.panel.test.state = .idle →
       exec .testStart s = .next ((test s
         { state := .lampTest, start := s.time.clock, panelParty := false, press := s.panel.test.press
           hostParty := true }).record .action none (4 + 32 * 1) s.enabledCount) ∧
       exec .testEnd s = .next (s.record .action none (5 + 32 * 1) 0)) ∧
     (s.panel.test.state ≠ .idle →
       exec .testStart s = .next
         ((test s { s.panel.test with hostParty := true }).record .action none (4 + 32 * 1) 0)) ∧
     (s.panel.test.state = .lampTest →
       exec .testEnd s = .next (((test s
         { s.panel.test with state := .idle, panelParty := false, hostParty := false }).record .action none
           (5 + 32 * 1) s.enabledCount).setCause .testend)) ∧
     (s.panel.test.state = .lampAndHornTest →
       ∃ t, exec .testEnd s = .next t ∧
         t.panel.test = { s.panel.test with state := .idle, panelParty := false, hostParty := false } ∧
         t.holdsRequest .horntest = false ∧ t.irq.flag .testend = true ∧ AnnunciationAndTest s t ∧
         t = ((test (s.withdraw .horntest)
           { s.panel.test with state := .idle, panelParty := false, hostParty := false }).record .action none
             (5 + 32 * 1) s.enabledCount).setCause .testend)) ∧
  ((∀ s : State, s.resetLow = false → s.panel.test.state = .lampTest → s.panel.test.panelParty = true →
     3000 ≤ (s.time.clock - s.panel.test.press).toNat →
     exec .hornTestBegin s = .next
       ({ s with panel := { s.panel with test := { s.panel.test with state := .lampAndHornTest } } }.post .horntest
         .horntest s.tones.htpat .loop none)) ∧
   ∀ s : State, s.resetLow = false → s.panel.test.state ≠ .idle →
     60000 ≤ (s.time.clock - s.panel.test.start).toNat →
     ∃ t, exec .testTimeout s = .next t ∧
       t.panel.test = { s.panel.test with state := .idle, panelParty := false, hostParty := false } ∧
       t.irq.flag .testend = true ∧ AnnunciationAndTest s t ∧
       (s.panel.test.state = .lampAndHornTest → t.holdsRequest .horntest = false) ∧
       (s.evq.masked .testTimeout = false →
         ∃ r ∈ t.evq.records.getLast?, r.kind = .testTimeout ∧ r.time = s.time.clock ∧ r.point = none ∧ r.source = 0 ∧
           r.detail = byte (bit s.panel.test.panelParty + 2 * bit s.panel.test.hostParty)))

/-- BUTTON_SAMPLE when it is due (R66, R67, R68, R70): every filter moves by its pin, and then every recognised change
acts in turn, in the command's order (log 6). A press is taken in ACTIVE if its button is not locked: ACK, SIL and RST
apply their actions with source PANEL and scope ALL, TST acts on the test. A press outside ACTIVE or of a locked button
changes nothing, nor does a release of ACK, SIL or RST or of a TST press that is no party to the test; a TST press
while the panel party is yes changes nothing either (DEDUCED, log 26). The release of the panel party's press ends the
test. Stated last: what a press of ACK, SIL or RST does, at the enabled points in ascending number, with an ACTION
record of source PANEL, scope ALL and the count, and ACTION set (R70, R74); and what a TST press and that release do to
the test, with source PANEL and ACTION set (R82, R83, R85). -/
def Obligations.ButtonSampleFilters : Prop :=
  (∀ (order : List Button) (s : State), s.resetLow = false → s.panel.sampleDue = true →
    let pressed (b : Button) : Bool := !s.pins.buttons.getLsbD b.index
    let old (b : Button) : ButtonFilter := s.panel.filters[b.index]
    let changes (b : Button) : Bool := decide (pressed b ≠ (old b).pressed) && decide ((old b).changes + 1 = 3)
    let u := { s with panel := { s.panel with filters := s.filtersAfter, sampleDue := false } }
    let act (w : State) (b : Button) : State :=
      if changes b = false then w
      else if pressed b then
        if w.ctl.state = .active ∧ w.panel.plock.getLsbD b.index = false then
          match b with
          | .ack => w.pointAction .ack ackPoint .panel .all
          | .sil => w.pointAction .silence silencePoint .panel .all
          | .rst => w.pointAction .reset resetPoint .panel .all
          | .tst => if w.panel.test.panelParty then w else w.testStart true
        else w
      else if b = .tst ∧ w.panel.test.panelParty = true then w.testEnd .release
      else w
    (∃ t, exec (.buttonSample order) s = .next t ∧ t.panel.sampleDue = false ∧
      ∀ b : Button, t.panel.filters[b.index] =
        if pressed b = (old b).pressed then { old b with changes := 0 }
        else if (old b).changes + 1 = 3 then { pressed := pressed b, changes := 0 }
        else { old b with changes := (old b).changes + 1 }) ∧
    exec (.buttonSample order) s = .next ((order.eraseDups ++
      [Button.ack, .sil, .rst, .tst].filter fun b => decide (b ∉ order)).foldl act u) ∧
    ((∀ b, changes b = true →
        pressed b = true ∧ (s.ctl.state ≠ .active ∨ s.panel.plock.getLsbD b.index = true) ∨
        pressed b = false ∧ (b ≠ .tst ∨ s.panel.test.panelParty = false)) →
      exec (.buttonSample order) s = .next u) ∧
    (∀ b, changes b = true → pressed b = true → s.ctl.state = .active → s.panel.plock.getLsbD b.index = false →
      (∀ c, c ≠ b → changes c = false) →
      exec (.buttonSample order) s = .next
        (match b with
        | .ack => u.pointAction .ack ackPoint .panel .all
        | .sil => u.pointAction .silence silencePoint .panel .all
        | .rst => u.pointAction .reset resetPoint .panel .all
        | .tst => if s.panel.test.panelParty then u else u.testStart true)) ∧
    (changes .tst = true → pressed .tst = false → s.panel.test.panelParty = true →
      (∀ c, c ≠ .tst → changes c = false) →
      exec (.buttonSample order) s = .next (u.testEnd .release))) ∧
  ∀ s : State,
    let test (u : State) (x : TestRecord) : State := { u with panel := { u.panel with test := x } }
    let acted (u : State) (code count : Nat) : State := u.record .action none (code + 32 * 0) count
    let swept (f : PointPart) : State × Nat := ((List.finRange 32).filter fun p => (s.point p).cfg.enabled).foldl
      (fun w p => ((f w.1 p).1, w.2 + bit (f w.1 p).2)) (s, 0)
    (s.pointAction .ack ackPoint .panel .all =
        (acted (swept ackPoint).1 1 (swept ackPoint).2).setCause .action ∧
      s.pointAction .silence silencePoint .panel .all =
        (acted (swept silencePoint).1 2 (swept silencePoint).2).setCause .action ∧
      s.pointAction .reset resetPoint .panel .all =
        (acted (swept resetPoint).1 3 (swept resetPoint).2).setCause .action) ∧
    (s.panel.test.state = .idle →
      s.testStart true = (acted (test s
        { state := .lampTest, start := s.time.clock, panelParty := true, press := s.time.clock
          hostParty := false }) 4 s.enabledCount).setCause .action) ∧
    (s.panel.test.state ≠ .idle →
      s.testStart true = (acted (test s { s.panel.test with panelParty := true, press := s.time.clock }) 4 0).setCause
        .action) ∧
    let w : State := if s.panel.test.state = .lampAndHornTest then s.withdraw .horntest else s
    s.testEnd .release = ((acted (test w
      { s.panel.test with state := .idle, panelParty := false, hostParty := false }) 5 s.enabledCount).setCause
        .testend).setCause .action

/-! ### Timebase (chapter 5) -/

/-- EIGHTH_END when it is due, and LINE_RELEASE (R93, R94, R97). Eighths 0 to 6 advance the index; eighth 7 takes a
cycle start with the counter plus 1, at which a LEADER pulls CSYNC low for 2 ms, or 6 ms at counter 0. Outside ACTIVE
nothing else changes; in ACTIVE the reminders of the cycle start are posted. An eighth past its length ends at once
(log 13). Which points are eligible is decided before the first posts (log 15).
The reminders of a cycle start in ACTIVE with counter value `c` (R78, R95): a point is eligible exactly when it is
enabled, in ALARM_UNACK, silenced, holds no request, has an alarm pattern, and `c` modulo 2^k is its offset. The points
that are eligible before the first posting post one after the other in ascending number, each a REMINDER with its alarm
pattern, its priority and ONCE; with one such point it is that posting alone. -/
def Obligations.CadenceEvents : Prop :=
  ((∀ s : State, s.resetLow = false → s.ctl.state ≠ .init → s.time.eighthLen.toNat ≤ s.time.intoEighth →
     (s.time.eighth ≠ 7 →
       exec .eighthEnd s = .next { s with time :=
         { s.time with eighth := s.time.eighth + 1, intoEighth := 0, eighthLen := s.time.elen } }) ∧
     (s.time.eighth = 7 → ¬(s.time.role = .follower ∧ s.time.sync = .locked) →
       let c := s.time.cycle + 1
       let u := { s with time :=
         { s.time with
           eighth := 0
           intoEighth := 0
           eighthLen := s.time.elen
           cycle := c
           lineLowUntil := if s.time.role = .leader then some (s.time.clock + (if c = 0 then 6 else 2))
             else s.time.lineLowUntil } }
       ∃ t, exec .eighthEnd s = .next t ∧ t = u.reminders c ∧ AnnunciationOnly u t ∧
         (s.ctl.state ≠ .active → t = u) ∧
         ∀ p : PointId, (t.point p).seq = { (s.point p).seq with toneDone := (t.point p).seq.toneDone })) ∧
   (∀ s : State, s.resetLow = false → s.time.lineLowUntil = some s.time.clock →
     exec .lineRelease s = .next { s with time := { s.time with lineLowUntil := none } })) ∧
  (∀ (s : State) (c : BitVec 6) (p : PointId),
     (s.remindable c p = true ↔
       (s.point p).cfg.enabled = true ∧ (s.point p).seq.state = .alarmUnack ∧ (s.point p).seq.silenced = true ∧
       (∃ r, (s.point p).cfg.reminder = some r ∧ c.toNat % 2 ^ r.exponent.toNat = r.offset.toNat) ∧
       (s.point p).cfg.alarmPattern ≠ none ∧ s.holdsRequest (.point p) = false) ∧
     (s.ctl.state ≠ .active → s.reminders c = s) ∧
     (s.ctl.state = .active → (∀ q : PointId, s.remindable c q = false) → s.reminders c = s) ∧
     (s.ctl.state = .active →
       s.reminders c = ((List.finRange 32).filter fun q => s.remindable c q).foldl (fun w q =>
         match (s.point q).cfg.alarmPattern with
         | none => w
         | some t => w.post (.point q) .reminder t .once (some (s.point q).cfg.priority)) s) ∧
     ∀ pattern : PatternId, s.ctl.state = .active → (s.point p).cfg.alarmPattern = some pattern →
       (∀ q : PointId, s.remindable c q = true ↔ q = p) →
       s.reminders c = s.post (.point p) .reminder pattern .once (some (s.point p).cfg.priority))

/-- PULSE_RECOGNISED at the end of a low period (R98 to R100, R102): up to 3 ms a pulse, up to 20 ms a marker, longer
nothing. A pulse or marker starts a cycle whose eighth 0 has run for the low time, with the counter plus 1 or 0, LOCKED,
no misses; from FREE, SYNC is set. In ACTIVE the cycle start posts its reminders (R78), and the SYNC record comes after
them (DESIGN CHOICE, log 14). Outside ACTIVE the SYNC record is the only one.
MISS when a LOCKED follower's eighth 7 has lasted three eighth lengths (R100, R101): a cycle start with the counter
plus 1, its reminders, and one miss more; the third in a row makes the follower FREE with no misses, and makes the SYNC
record and cause after the reminders. -/
def Obligations.FollowerEvents : Prop :=
  (∀ (s : State) (n : Nat), s.resetLow = false → s.time.lowRun = .ended n → s.time.role = .follower →
     (20 < n → exec .pulseRecognised s = .next { s with time := { s.time with lowRun := .none } }) ∧
     (n ≤ 20 →
       let c := if n ≤ 3 then s.time.cycle + 1 else 0
       let cycled := { s.time with lowRun := .none, eighth := 0, intoEighth := n, eighthLen := s.time.elen, cycle := c }
       let u := { s with time := { cycled with sync := .locked, misses := 0 } }
       let w := { s with time := cycled }.reminders c
       let v : State := { w with time := { w.time with sync := .locked, misses := 0 } }
       ∃ t, exec .pulseRecognised s = .next t ∧ AnnunciationOnly u t ∧
         (s.time.sync = .locked → t = v) ∧
         (s.time.sync = .free →
           t = (v.record .sync none 0 (1 + 2 * (if n ≤ 3 then 0 else 1))).setCause .sync ∧ t.irq.flag .sync = true) ∧
         (s.ctl.state ≠ .active → s.time.sync = .locked → t = u) ∧
         (s.ctl.state ≠ .active → s.time.sync = .free →
           t = (u.record .sync none 0 (1 + 2 * (if n ≤ 3 then 0 else 1))).setCause .sync))) ∧
  (∀ s : State, s.resetLow = false → s.ctl.state ≠ .init → s.time.role = .follower → s.time.sync = .locked →
     s.time.eighth = 7 → 3 * s.time.eighthLen.toNat ≤ s.time.intoEighth → s.time.misses ≤ 2 →
     let c := s.time.cycle + 1
     let cycled := { s.time with eighth := 0, intoEighth := 0, eighthLen := s.time.elen, cycle := c }
     let u := { s with time :=
       { cycled with
         sync := if s.time.misses = 2 then .free else .locked
         misses := if s.time.misses = 2 then 0 else s.time.misses + 1 } }
     let w := { s with time := { cycled with misses := s.time.misses + 1 } }.reminders c
     ∃ t, exec .miss s = .next t ∧ AnnunciationOnly u t ∧
       (s.time.misses ≠ 2 → t = w) ∧
       (s.time.misses = 2 →
         t = ({ w with time := { w.time with sync := .free, misses := 0 } }.record .sync none 0 (0 + 2 * 2)).setCause
           .sync ∧ t.irq.flag .sync = true) ∧
       (s.ctl.state ≠ .active →
         t = if s.time.misses = 2 then (u.record .sync none 0 (0 + 2 * 2)).setCause .sync else u))

/-- SROLE_WRITE and TDIV_WRITE (R88, R96): LOCKED outside SETUP; in SETUP a legal role takes effect with FREE, no
misses, the line released and a low period under way discarded (log 16); TDIV takes the joined value at its high byte
if it is 256 or more. Any other value is refused with BAD_VALUE.
The registers written in SETUP alone (R7, R91, R191): LOCKED in every other state; in SETUP a legal value takes
effect and any other is refused with BAD_VALUE. -/
def Obligations.SetupWrites : Prop :=
  (∀ (s : State) (v : Byte), s.resetLow = false →
     (s.ctl.state ≠ .setup → exec (.sroleWrite v) s = .next (s.refuse .srole .locked) ∧
       ∀ h, exec (.tdivWrite h v) s = .next (s.refuse (.tdiv h) .locked)) ∧
     (s.ctl.state = .setup →
       (∀ r : Role, v.toNat = r.code → exec (.sroleWrite v) s = .next { s with time :=
         { s.time with
           role := r
           sync := .free
           misses := 0
           lineLowUntil := none
           lowRun := if s.pins.csync then .none else .discarded } }) ∧
       (3 ≤ v.toNat → exec (.sroleWrite v) s = .next (s.refuse .srole .badValue)) ∧
       exec (.tdivWrite .low v) s = .next { s with time := { s.time with tdivStaging := v } } ∧
       (256 ≤ (v ++ s.time.tdivStaging : BitVec 16).toNat →
         exec (.tdivWrite .high v) s = .next { s with time := { s.time with tdiv := v ++ s.time.tdivStaging } }) ∧
       ((v ++ s.time.tdivStaging : BitVec 16).toNat < 256 →
         exec (.tdivWrite .high v) s = .next (s.refuse (.tdiv .high) .badValue)))) ∧
  (∀ (s : State) (v : Byte), s.resetLow = false →
     (s.ctl.state ≠ .setup →
       exec (.registerWrite 0x0A v) s = .next (s.refuse .elen .locked) ∧
       exec (.registerWrite 0x0E v) s = .next (s.refuse .setl .locked) ∧
       exec (.registerWrite 0x0F v) s = .next (s.refuse .opts .locked) ∧
       exec (.registerWrite 0x21 v) s = .next (s.refuse .scnper .locked)) ∧
     (s.ctl.state = .setup →
       (Within 50 250 v.toNat →
         exec (.registerWrite 0x0A v) s = .next { s with time := { s.time with elen := v } }) ∧
       (¬Within 50 250 v.toNat → exec (.registerWrite 0x0A v) s = .next (s.refuse .elen .badValue)) ∧
       exec (.registerWrite 0x0E v) s = .next { s with ctl := { s.ctl with setl := v } } ∧
       exec (.registerWrite 0x0F v) s = .next { s with ctl := { s.ctl with quietStart := v.getLsbD 0 } } ∧
       (∀ p : ScanPeriod, v.toNat = p.code →
         exec (.registerWrite 0x21 v) s = .next { s with scan := { s.scan with period := p } }) ∧
       (4 ≤ v.toNat → exec (.registerWrite 0x21 v) s = .next (s.refuse .scnper .badValue))))

/-! ### Registers (R1 to R9, R40, R52, R71, R75, R125, R200) -/

/-- PSEL_WRITE and SHDUR_WRITE (R1, R4, R40), in every controller state.
PCF_WRITE (R3, R4): LOCKED outside SETUP. In SETUP PCF0 takes its four fields, PCF1 and PCF6 a legal pattern, the
first bytes are staged, the last bytes of the delays join with them, PCF8 joins the reminder and takes the group if
both are legal; an illegal code is refused with BAD_VALUE and changes no field. What each code names is stated last:
patterns 0 to 31 and NONE 63, groups 0 to 7 and NONE 15, the classes N, L, M and R (R2, chapter 11). -/
def Obligations.PointWindowWrites : Prop :=
  (∀ (s : State) (v : Byte), s.resetLow = false →
     (∀ p : PointId, v.toNat = p.val →
       let c := (s.point p).cfg
       exec (.pselWrite v) s = .next { s with window :=
         { s.window with
           psel := p, onStaging := c.toByte 2, offStaging := c.toByte 4, reminderStaging := c.toByte 7 } }) ∧
     (32 ≤ v.toNat → exec (.pselWrite v) s = .next (s.refuse .psel .badValue)) ∧
     exec (.shdurWrite .low v) s = .next { s with window := { s.window with shdurStaging := v } } ∧
     exec (.shdurWrite .high v) s = .next { s with window := { s.window with shdur := v ++ s.window.shdurStaging } }) ∧
  (∀ (s : State) (v : Byte), s.resetLow = false →
     (s.ctl.state ≠ .setup → ∀ i, exec (.pcfWrite i v) s = .next (s.refuse (.pcf i) .locked)) ∧
     (s.ctl.state = .setup →
       let p := s.window.psel
       let cfg (f : PointConfig → PointConfig) : Host.Outcome State Fault Refusal := .next (s.modCfg p f)
       exec (.pcfWrite 0 v) s = cfg (fun c =>
         { c with
           enabled := v.getLsbD 0
           alarmLevel := if v.getLsbD 1 then .high else .low
           debounceLess1 := v.extractLsb' 2 3
           cls := AlarmClass.ofCode (v.extractLsb' 5 2).toNat }) ∧
       (∀ t, patternOfCode (v.extractLsb' 0 6).toNat = some t →
         exec (.pcfWrite 1 v) s = cfg (fun c =>
           { c with ringbackPattern := t, priority := (v.extractLsb' 6 2).toFin }) ∧
         exec (.pcfWrite 6 v) s = cfg (fun c => { c with alarmPattern := t })) ∧
       (patternOfCode (v.extractLsb' 0 6).toNat = none →
         exec (.pcfWrite 1 v) s = .next (s.refuse (.pcf 1) .badValue) ∧
         exec (.pcfWrite 6 v) s = .next (s.refuse (.pcf 6) .badValue)) ∧
       exec (.pcfWrite 2 v) s = .next { s with window := { s.window with onStaging := v } } ∧
       exec (.pcfWrite 3 v) s = cfg (fun c => { c with onDelay := v.extractLsb' 0 4 ++ s.window.onStaging }) ∧
       exec (.pcfWrite 4 v) s = .next { s with window := { s.window with offStaging := v } } ∧
       exec (.pcfWrite 5 v) s = cfg (fun c => { c with offDelay := v.extractLsb' 0 4 ++ s.window.offStaging }) ∧
       exec (.pcfWrite 7 v) s = .next { s with window := { s.window with reminderStaging := v &&& 0x3F } } ∧
       ((reminderOfCodes (v.extractLsb' 0 3).toNat s.window.reminderStaging.toNat = none ∨
           groupOfCode (v.extractLsb' 3 4).toNat = none) →
         exec (.pcfWrite 8 v) s = .next (s.refuse (.pcf 8) .badValue)) ∧
       ∀ r g, reminderOfCodes (v.extractLsb' 0 3).toNat s.window.reminderStaging.toNat = some r →
         groupOfCode (v.extractLsb' 3 4).toNat = some g →
         ∃ t, exec (.pcfWrite 8 v) s = .next t ∧ (∀ q : PointId, t.point q =
           if q = p then { s.point p with cfg := { (s.point p).cfg with reminder := r, group := g } } else s.point q) ∧
           t = { s with points := t.points, window := { s.window with reminderStaging := byte (reminderOffset r) } }) ∧
     (∀ k offset, reminderOfCodes k offset =
       if k = 0 then some none
       else if k ≤ 6 ∧ offset < 2 ^ k then some (some { exponent := BitVec.ofNat 3 k, offset := BitVec.ofNat 6 offset })
       else none) ∧
     (∀ c, patternOfCode c = none ↔ 32 ≤ c ∧ c ≠ 63) ∧ (∀ c, groupOfCode c = none ↔ 8 ≤ c ∧ c ≠ 15) ∧
     (∀ t : PatternId, patternOfCode t.val = some (some t)) ∧ patternOfCode 63 = some none ∧
     (∀ g : GroupId, groupOfCode g.val = some (some g)) ∧ groupOfCode 15 = some none ∧
     AlarmClass.ofCode 0 = .n ∧ AlarmClass.ofCode 1 = .l ∧ AlarmClass.ofCode 2 = .m ∧ AlarmClass.ofCode 3 = .r)

/-- The registers written in every controller state, each with its own range (R52, R71, R122, R133, R156, R158, R159,
R162, R170, R180, R181, R198, R199); an illegal value is refused with BAD_VALUE.
ASCP (R71): in every controller state, kind 3 and a GROUP index from 8 are refused with BAD_VALUE, ALL stores index
0, GROUP 0 to 7 and every POINT are stored. -/
def Obligations.FreeRegisterWrites : Prop :=
  (∀ (s : State) (v : Byte), s.resetLow = false →
     let w (a : BitVec 7) := exec (.registerWrite a v) s
     (∀ x : Fin 8, v.toNat = x.val → w 0x30 = .next { s with gsel := x }) ∧
     (8 ≤ v.toNat → w 0x30 = .next (s.refuse .gsel .badValue)) ∧
     (∀ x : Fin 68, v.toNat = x.val → w 0x38 = .next { s with xfer := { s.xfer with dradr := x } } ∧
       w 0x3E = .next { s with xfer := { s.xfer with rbadr := x } }) ∧
     (68 ≤ v.toNat → w 0x38 = .next (s.refuse .dradr .badValue) ∧ w 0x3E = .next (s.refuse .rbadr .badValue)) ∧
     (∀ x : Fin 4, v.toNat = x.val → w 0x49 = .next { s with tones := { s.tones with vsel := x } }) ∧
     (4 ≤ v.toNat → w 0x49 = .next (s.refuse .vsel .badValue)) ∧
     (∀ x : Fin 32, v.toNat = x.val → w 0x50 = .next { s with tones := { s.tones with htpat := x } }) ∧
     (32 ≤ v.toNat → w 0x50 = .next (s.refuse .htpat .badValue)) ∧
     w 0x4E = .next { s with tones :=
       { s.tones with chimePattern := (v.extractLsb' 0 5).toFin, chimePriority := (v.extractLsb' 6 2).toFin } } ∧
     (Within 1 8 v.toNat → w 0x51 = .next { s with lamps := { s.lamps with lmplv := v } } ∧
       w 0x52 = .next { s with lamps := { s.lamps with tstlv := v } } ∧
       w 0x53 = .next { s with lamps := { s.lamps with eccap := v } }) ∧
     (¬Within 1 8 v.toNat → w 0x51 = .next (s.refuse .lmplv .badValue) ∧
       w 0x52 = .next (s.refuse .tstlv .badValue) ∧ w 0x53 = .next (s.refuse .eccap .badValue)) ∧
     (Within 2 14 v.toNat → w 0x54 = .next { s with supply := { s.supply with ecolv := v } }) ∧
     (¬Within 2 14 v.toNat → w 0x54 = .next (s.refuse .ecolv .badValue)) ∧
     (Within 1 3 v.toNat → w 0x55 = .next { s with supply := { s.supply with echys := v } }) ∧
     (¬Within 1 3 v.toNat → w 0x55 = .next (s.refuse .echys .badValue)) ∧
     (Within 1 64 v.toNat → w 0x64 = .next { s with evq := { s.evq with threshold := v } }) ∧
     (¬Within 1 64 v.toNat → w 0x64 = .next (s.refuse .evthr .badValue)) ∧
     w 0x63 = .next { s with evq := { s.evq with mask := v.extractLsb' 0 4 } } ∧
     w 0x2B = .next { s with panel := { s.panel with plock := v.extractLsb' 0 4 } } ∧
     w 0x6A = .next { s with irq := { s.irq with enables := s.irq.enables.extractLsb' 8 7 ++ v } } ∧
     w 0x6B = .next { s with irq :=
       { s.irq with enables := v.extractLsb' 0 7 ++ s.irq.enables.extractLsb' 0 8 } } ∧
     w 0x6C = .next { s with irq :=
       { s.irq with
         levelPoint := v.extractLsb' 0 2
         levelOperator := v.extractLsb' 2 2
         levelQueue := v.extractLsb' 4 2
         levelTransfer := v.extractLsb' 6 2 } } ∧
     w 0x6D = .next { s with irq :=
       { s.irq with
         levelSystem := v.extractLsb' 0 2
         levelFault := v.extractLsb' 2 2
         threshold := v.extractLsb' 4 2 } }) ∧
  (∀ (s : State) (v : Byte), s.resetLow = false →
     let stored (c : Machine.Scope) : Host.Outcome State Fault Refusal :=
       .next { s with panel := { s.panel with ascp := c } }
     (v.extractLsb' 6 2 = 0 → exec (.registerWrite 0x28 v) s = stored .all) ∧
     (∀ g : GroupId, v.extractLsb' 6 2 = 1 → (v.extractLsb' 0 5).toNat = g.val →
       exec (.registerWrite 0x28 v) s = stored (.group g)) ∧
     (∀ p : PointId, v.extractLsb' 6 2 = 2 → (v.extractLsb' 0 5).toNat = p.val →
       exec (.registerWrite 0x28 v) s = stored (.point p)) ∧
     ((v.extractLsb' 6 2 = 3 ∨ v.extractLsb' 6 2 = 1 ∧ 8 ≤ (v.extractLsb' 0 5).toNat) →
       exec (.registerWrite 0x28 v) s = .next (s.refuse .ascp .badValue)))

/-- XID (R125): a write is accepted in every controller state and never refused, a read returns the byte held; both
resets set it to 0, soft reset and STOP leave it unchanged, and the value is judged when a request is issued. -/
def Obligations.XidHoldsItsByte : Prop :=
  (∀ (s : State) (v : Byte), s.resetLow = false →
    exec (.registerWrite 0x3A v) s = .next { s with xfer := { s.xfer with xid := v } }) ∧
  (∀ s : State, s.readByte 0x3A = s.xfer.xid) ∧
  (∀ s t : State, (exec .powerOnReset s = .next t ∨ exec .hardwareReset s = .next t) → t.xfer.xid = 0) ∧
  (∀ s t : State, (exec .softreset s = .next t ∨ exec .stop s = .next t) → s.resetLow = false →
    t.xfer.xid = s.xfer.xid) ∧
  ∀ s : State, s.resetLow = false → s.ctl.state ≠ .init → s.xfer.queue.length < 4 → 32 ≤ s.xfer.xid.toNat →
    ∀ c ∈ [Instr.commitHeader, .commitSteps, .commitBoth, .fetch],
      exec c s = .next (s.refuseCommand .xreq .badId)

/-- AGRD (R75): every value is accepted in every controller state, a read returns it, both resets set it to 0, soft
reset and STOP leave it unchanged. The value written is used by the next ACK taken, in units of 10 ms: of the points in
scope in ALARM_UNACK, one whose alarm is younger is passed over and keeps its state, silenced flag and alarm time, and
any other leaves ALARM_UNACK. A guard of 0 passes over no point. (A point whose class, state and condition are as R23
says they stand; the others do not arise.) A panel ACK examines the same guard. -/
def Obligations.AgrdIsTheGuard : Prop :=
  (∀ (s : State) (v : Byte), s.resetLow = false →
    exec (.registerWrite 0x2A v) s = .next { s with panel := { s.panel with agrd := v } }) ∧
  (∀ s : State, s.readByte 0x2A = s.panel.agrd) ∧
  (∀ s t : State, (exec .powerOnReset s = .next t ∨ exec .hardwareReset s = .next t) → t.panel.agrd = 0) ∧
  (∀ s t : State, (exec .softreset s = .next t ∨ exec .stop s = .next t) → s.resetLow = false →
    t.panel.agrd = s.panel.agrd) ∧
  (∀ (s : State) (v : Byte), s.resetLow = false → s.ctl.state = .active → s.scopeDisabled = false →
    ∃ u t, exec (.registerWrite 0x2A v) s = .next u ∧ exec .ack u = .next t ∧
      ∀ p : PointId, s.inScope s.panel.ascp p = true → (s.point p).seq.state = .alarmUnack →
        ((s.time.clock - (s.point p).seq.alarmTime).toNat < v.toNat * 10 →
          (t.point p).seq.state = .alarmUnack ∧ (t.point p).seq.silenced = (s.point p).seq.silenced ∧
          (t.point p).seq.alarmTime = (s.point p).seq.alarmTime) ∧
        (v.toNat * 10 ≤ (s.time.clock - (s.point p).seq.alarmTime).toNat → (s.point p).StateFits →
          (t.point p).seq.state ≠ .alarmUnack)) ∧
  (∀ s : State, s.resetLow = false → s.ctl.state = .active → s.scopeDisabled = false → s.panel.agrd = 0 →
    ∃ t, exec .ack s = .next t ∧
      ∀ p : PointId, s.inScope s.panel.ascp p = true → (s.point p).seq.state = .alarmUnack → (s.point p).StateFits →
        (t.point p).seq.state ≠ .alarmUnack) ∧
  (∀ (s : State) (p : PointId), (s.guardMet p = true ↔
    s.panel.agrd.toNat * 10 ≤ (s.time.clock - (s.point p).seq.alarmTime).toNat) ∧
    (s.guardMet p = false → ackPoint s p = (s, false))) ∧
  ∀ (s : State) (p : PointId), s.panel.agrd = 0 → s.guardMet p = true

/-- A write of a command register is that command, and a code that names none is refused with BAD_VALUE in any
controller state (R41, R61, R72, R126, R156, R184, R189); CHCTL takes its two flags whatever its other bits (R156,
R157). Every unassigned address and every read-only register ignores writes (R200 and the register map). -/
def Obligations.CommandRegisters : Prop :=
  ∀ (s : State) (v : Byte), s.resetLow = false →
    let w (a : BitVec 7) (v : Byte) := exec (.registerWrite a v) s
    (w 0x00 1 = exec .start s ∧ w 0x00 2 = exec .stop s ∧ w 0x00 3 = exec .hold s ∧ w 0x00 4 = exec .resume s ∧
      w 0x00 5 = exec .softreset s) ∧
    (w 0x1E 1 = exec .shelve s ∧ w 0x1E 2 = exec .unshelve s ∧ w 0x31 1 = exec .rearm s) ∧
    (w 0x29 1 = exec .ack s ∧ w 0x29 2 = exec .silence s ∧ w 0x29 3 = exec .reset s ∧
      w 0x29 4 = exec .testStart s ∧ w 0x29 5 = exec .testEnd s) ∧
    (w 0x3B 1 = exec .commitHeader s ∧ w 0x3B 2 = exec .commitSteps s ∧ w 0x3B 3 = exec .commitBoth s ∧
      w 0x3B 4 = exec .fetch s) ∧
    (w 0x4F 1 = exec .chimeStart s ∧ w 0x4F 2 = exec (.chimeStop false) s ∧ w 0x4F 3 = exec (.chimeStop true) s) ∧
    w 0x62 1 = exec .flush s ∧
    (¬Within 1 5 v.toNat → w 0x00 v = .next (s.refuseCommand .ccmd .badValue) ∧
      w 0x29 v = .next (s.refuseCommand .actn .badValue)) ∧
    (¬Within 1 2 v.toNat → w 0x1E v = .next (s.refuseCommand .pcmd .badValue)) ∧
    (v ≠ 1 → w 0x31 v = .next (s.refuseCommand .gcmd .badValue) ∧
      w 0x62 v = .next (s.refuseCommand .evcmd .badValue)) ∧
    (¬Within 1 4 v.toNat → w 0x3B v = .next (s.refuseCommand .xreq .badValue)) ∧
    (v &&& 3 = 0 → w 0x4F v = .next (s.refuseCommand .chctl .badValue)) ∧
    (v.getLsbD 1 = false → v.getLsbD 0 = true → w 0x4F v = exec .chimeStart s) ∧
    (v.getLsbD 1 = true → w 0x4F v = exec (.chimeStop (v.getLsbD 0)) s) ∧
    ∀ a : BitVec 7,
      (Within 0x2E 0x2F a.toNat ∨ Within 0x40 0x47 a.toNat ∨ Within 0x70 0x7F a.toNat ∨
        a ∈ [(0x01 : BitVec 7), 0x02, 0x03, 0x06, 0x07, 0x08, 0x09, 0x0C, 0x0D, 0x1A, 0x1B, 0x1C, 0x1D, 0x22, 0x23,
          0x24, 0x25, 0x26, 0x27, 0x2C, 0x2D, 0x32, 0x33, 0x34, 0x35, 0x36, 0x37, 0x3C, 0x3D, 0x3F, 0x4A, 0x4B, 0x4C,
          0x4D, 0x56, 0x57, 0x58, 0x59, 0x5A, 0x5B, 0x5C, 0x5D, 0x5E, 0x5F, 0x60, 0x61, 0x65, 0x66, 0x67, 0x6E,
          0x6F]) → w a v = .next s

/-- The reads of first bytes (R9, R49, R64, R90, R103, R129, R159, R167, R175, R186, R197, R200): the value is driven,
the partners' present values go to their hold bytes, a read of each then follows, and nothing else changes.
A read of a partner byte (R200): it returns the hold byte when it follows, else the present value, and a second
read does not follow; nothing else changes. -/
def Obligations.HoldByteReads : Prop :=
  (∀ s : State, s.resetLow = false →
     let held (v : Byte) : Hold := { value := v, follows := true }
     exec .scnnumLowRead s = .next { s with
       dataOut := some (byte (s.scan.number.toNat % 256))
       holds := s.holds.set 6 (held (byte (s.scan.number.toNat / 256))) } ∧
     exec .rclk0Read s = .next { s with
       dataOut := some (s.time.clock.extractLsb' 0 8)
       holds := ((s.holds.set 1 (held (s.time.clock.extractLsb' 8 8))).set 2
         (held (s.time.clock.extractLsb' 16 8))).set 3 (held (s.time.clock.extractLsb' 24 8)) } ∧
     exec .cstatRead s = .next { s with
       dataOut := some (byte (s.time.role.code + 4 * bit (s.time.sync = .locked) + 8 * s.time.misses +
         32 * s.time.eighth.toNat))
       holds := s.holds.set 4 (held (byte s.time.cycle.toNat)) } ∧
     exec .shelfSecondsLowRead s = .next { s with
       dataOut := some (byte ((s.point s.window.psel).seq.shelf.shownSeconds % 256))
       holds := s.holds.set 5 (held (byte ((s.point s.window.psel).seq.shelf.shownSeconds / 256))) } ∧
     exec .gst3Read s = .next { s with
       dataOut := some (byte ((s.group s.gsel).captureScan.toNat % 256))
       holds := s.holds.set 10 (held (byte ((s.group s.gsel).captureScan.toNat / 256))) } ∧
     exec .xstat0Read s = .next { s with
       dataOut := some (byte (s.xfer.queue.length + 8 * bit s.xfer.busy + 16 * bit s.xfer.replaced))
       holds := s.holds.set 11 (held s.xfer.xstat1) } ∧
     exec .vst0Read s = .next { s with
       dataOut := some (voiceByte s.voices[s.tones.vsel] 0)
       holds := (s.holds.set 12 (held (voiceByte s.voices[s.tones.vsel] 1))).set 13
         (held (voiceByte s.voices[s.tones.vsel] 2)) } ∧
     exec .lout0Read s = .next { s with
       dataOut := some (s.loutByte 0)
       holds := ((s.holds.set 7 (held (s.loutByte 1))).set 8 (held (s.loutByte 2))).set 9 (held (s.loutByte 3)) } ∧
     exec .sgstRead s = .next { s with
       dataOut := some (byte (s.supply.state.code + 4 * s.supply.count1 + 16 * s.supply.count2))
       holds := s.holds.set 14 (held (byte s.supply.last.toNat)) } ∧
     exec .evnxt0Read s = .next { s with
       dataOut := some (byte (s.evq.seq.toNat % 256))
       holds := s.holds.set 15 (held (byte (s.evq.seq.toNat / 256))) } ∧
     exec .rfs0Read s = .next { s with
       dataOut := some (byte s.ctl.refAddr.toNat)
       holds := s.holds.set 0 (held (byte s.ctl.refReason.code)) }) ∧
  (∀ (s : State) (b : Partner), s.resetLow = false →
     ((s.holdOf b).follows = true →
       exec (.holdPartnerByteRead b) s = .next { s with
         dataOut := some (s.holdOf b).value
         holds := s.holds.set b.index { s.holdOf b with follows := false } }) ∧
     ((s.holdOf b).follows = false →
       exec (.holdPartnerByteRead b) s = .next { s with dataOut := some (s.presentByte b.reg) }))

/-! ### Transfers (chapters 6 and 7) -/

/-- The four requests (R126 to R128): checked in the order state, room, id, repeat, count, range, steps, the first
failing check giving the reason; a request that passes joins the tail in WAITING with copies of the draft. What the
bytes of the draft hold, header image and step images, is stated last (R123, R124, chapter 11). -/
def Obligations.TransferRequests : Prop :=
  (∀ (s : State) (r : TransferRequest), s.resetLow = false →
    let d := s.xfer.draft
    let header : Prop := (r = .commitHeader ∨ r = .commitBoth) ∧ d.valid = true
    let steps : Prop := r = .commitSteps ∨ r = .commitBoth
    let room : Prop := s.ctl.state ≠ .init ∧ s.xfer.queue.length < 4
    let named : Prop := room ∧ s.xfer.xid.toNat < 32
    let repeatOk : Prop := header → d[1].toNat ≤ 15
    let countOk : Prop := header ∨ steps → Within 1 32 d[2].toNat
    let rangeOk : Prop := header ∨ steps → d[3].toNat + d[2].toNat ≤ 256
    let stepsOk : Prop := steps → ∀ i, i < d[2].toNat → d.stepLegal i = true
    let issue : Host.Outcome State Fault Refusal := match r with
      | .commitHeader => exec .commitHeader s
      | .commitSteps => exec .commitSteps s
      | .commitBoth => exec .commitBoth s
      | .fetch => exec .fetch s
    let refusedFor (why : Reason) : Prop := issue = .next (s.refuseCommand .xreq why)
    (s.ctl.state = .init → refusedFor .wrongState) ∧
    (s.ctl.state ≠ .init → 4 ≤ s.xfer.queue.length → refusedFor .queueFull) ∧
    (room → 32 ≤ s.xfer.xid.toNat → refusedFor .badId) ∧
    (named → ¬repeatOk → refusedFor .badRepeat) ∧
    (named → repeatOk → ¬countOk → refusedFor .badCount) ∧
    (named → repeatOk → countOk → ¬rangeOk → refusedFor .badRange) ∧
    (named → repeatOk → countOk → rangeOk → ¬stepsOk → refusedFor .badStep) ∧
    (named → repeatOk → countOk → rangeOk → stepsOk → ∀ p : PatternId, s.xfer.xid.toNat = p.val →
      issue = .next { s with xfer := { s.xfer with queue := s.xfer.queue ++
        [{ id := p, progress := none
           transfer := match r with
            | .commitHeader => .commitHeader d.header
            | .commitSteps => .commitSteps d[3].toNat ((List.range d[2].toNat).map d.step)
            | .commitBoth => .commitBoth d.header d[3].toNat ((List.range d[2].toNat).map d.step)
            | .fetch => .fetch none }] } })) ∧
  ∀ d : Image,
    d.valid = d[0].getLsbD 0 ∧
    d.header =
      (if d[0].getLsbD 0 then some
        { rep := match d[1].toNat with
            | 0 => .once
            | 1 => .loop
            | k => .count k
          envelope :=
            if d[0].getLsbD 1 then
              .decay (match (d[0].extractLsb' 2 2).toNat with
                | 0 => .ms50
                | 1 => .ms100
                | 2 => .ms200
                | _ => .ms400)
            else .off
          count := d[2].toNat
          first := d[3].toNat }
      else none) ∧
    ∀ i : Fin 32,
      let b := d[(⟨4 + 2 * i, by omega⟩ : Fin 68)]
      let duration := d[(⟨5 + 2 * i, by omega⟩ : Fin 68)]
      let level := (b.extractLsb' 5 3).toNat + 1
      (d.stepLegal i = true ↔ (b.extractLsb' 0 5).toNat ≤ 16 ∧ duration ≠ 0) ∧
      (∀ t : Fin 16, (b.extractLsb' 0 5).toNat = t.val →
        d.step i = { tone := some t, level := level, duration := duration.toNat }) ∧
      ((b.extractLsb' 0 5).toNat = 16 → d.step i = { tone := none, level := level, duration := duration.toNat })

/-- The accesses of the head entry at a tick at which nothing is overdue (R130 to R132): a commit writes its next step,
a fetch reads the header and then its next step; the entry is APPLYING with one access more. The last access, of every
form, is marked due, to be made by the completion (DEDUCED, log 17). The access of a tick marked late is left to the
end of the tick (DESIGN CHOICE, log 7): it is due, and the next tick makes it before it counts, as the last clause
says; the tick's own access follows. No access is made in INIT. -/
def Obligations.EngineAccesses : Prop :=
  (∀ (p : Pins) (s : State) (e : Entry) (rest : List Entry), s.resetLow = false → s.takeDue = s →
    s.xfer.queue = e :: rest →
    let n := e.progress.getD 0
    let makes (l : Bool) (st : Store) (x : Transfer) : Prop :=
      ∃ t, exec (.tick p l) s = .next t ∧ t.store = st ∧
        t.xfer = { s.xfer with
          queue := { e with progress := some (n + 1), transfer := x } :: rest, accessDue := false }
    (s.ctl.state ≠ .init →
      (∀ first steps, e.transfer = .commitSteps first steps → n + 1 < steps.length →
        makes false { s.store with steps := s.store.steps.setIfInBounds (first + n) (steps.getD n .initial) }
          e.transfer) ∧
      (∀ h first steps, e.transfer = .commitBoth h first steps → n < steps.length →
        makes false { s.store with steps := s.store.steps.setIfInBounds (first + n) (steps.getD n .initial) }
          e.transfer) ∧
      (∀ h, e.transfer = .fetch none → n = 0 → s.store.headers[e.id] = some h → 1 ≤ h.count →
        makes false s.store (.fetch (some (some h, [])))) ∧
      (∀ h got, e.transfer = .fetch (some (some h, got)) → 1 ≤ n → n < h.count →
        makes false s.store (.fetch (some (some h, got ++ [s.store.step (h.first + (n - 1))])))) ∧
      (∃ t, exec (.tick p true) s = .next t ∧ t.store = s.store ∧ t.xfer = { s.xfer with accessDue := true })) ∧
    (s.ctl.state ≠ .init →
      ((∃ h, e.transfer = .commitHeader h) ∨
        (∃ first steps, e.transfer = .commitSteps first steps ∧ steps.length ≤ n + 1) ∨
        (∃ h first steps, e.transfer = .commitBoth h first steps ∧ steps.length ≤ n) ∨
        (e.transfer = .fetch none ∧ s.store.headers[e.id] = none) ∨
        (∃ h got, e.transfer = .fetch (some (some h, got)) ∧ h.count ≤ n)) →
      ∀ l, ∃ t, exec (.tick p l) s = .next t ∧ t.store = s.store ∧ t.xfer = { s.xfer with accessDue := true }) ∧
    (s.ctl.state = .init → ∀ l, ∃ t, exec (.tick p l) s = .next t ∧ t.xfer = s.xfer)) ∧
  ∀ (s : State) (e : Entry) (rest : List Entry), s.xfer.queue = e :: rest → s.xfer.accessDue = true →
    let n := e.progress.getD 0
    let made (st : Store) (x : Transfer) : Prop :=
      s.lateAccess = { s with
        store := st
        xfer := { s.xfer with
          queue := { e with progress := some (n + 1), transfer := x } :: rest, accessDue := false } }
    (∀ first steps, e.transfer = .commitSteps first steps → n + 1 < steps.length →
      made { s.store with steps := s.store.steps.setIfInBounds (first + n) (steps.getD n .initial) } e.transfer) ∧
    (∀ h first steps, e.transfer = .commitBoth h first steps → n < steps.length →
      made { s.store with steps := s.store.steps.setIfInBounds (first + n) (steps.getD n .initial) } e.transfer) ∧
    (∀ h, e.transfer = .fetch none → n = 0 → s.store.headers[e.id] = some h → 1 ≤ h.count →
      made s.store (.fetch (some (some h, [])))) ∧
    (∀ h got, e.transfer = .fetch (some (some h, got)) → 1 ≤ n → n < h.count →
      made s.store (.fetch (some (some h, got ++ [s.store.step (h.first + (n - 1))])))) ∧
    (s.resetLow = false → s.takeDue = s.lateAccess → s.lateAccess.takeDue = s.lateAccess →
      ∀ (p : Pins) (l : Bool), exec (.tick p l) s = exec (.tick p l) s.lateAccess)

/-- COMMIT_COMPLETION and FETCH_COMPLETION at the last access of the head entry (R131, R132): the last write is made,
the entry leaves the queue, a PATTERN_UPDATED record is made and XDONE set; or the readback image is replaced by the
header and the steps read, and RBRDY set. Nothing else changes. What the bytes of the readback image hold is stated
last: the header image, the step images in order and zeros beyond them, and for an empty header zeros alone (R132,
chapter 11). -/
def Obligations.TransferCompletions : Prop :=
  (∀ (s : State) (e : Entry) (rest : List Entry), s.resetLow = false → s.xfer.queue = e :: rest →
    s.xfer.accessDue = true →
    let n := e.progress.getD 0
    let committed (st : Store) (source steps : Nat) : Prop :=
      exec .commitCompletion s = .next (({ s with
        store := st
        xfer := { s.xfer with queue := rest, accessDue := false } }.record .patternUpdated (some e.id) source
          steps).setCause .xdone)
    let fetched (h : Header) (got : List Machine.Step) : Prop :=
      exec .fetchCompletion s = .next ({ s with xfer :=
        { s.xfer with
          queue := rest, accessDue := false, image := imageOf h got, replaced := true } }.setCause .rbrdy)
    (∀ h, e.transfer = .commitHeader h →
      committed { s.store with headers := s.store.headers.set e.id h } (1 + 8 * bit h.isSome) 0) ∧
    (∀ first steps, e.transfer = .commitSteps first steps → n + 1 = steps.length →
      committed { s.store with steps := s.store.steps.setIfInBounds (first + n) (steps.getD n .initial) } 2
        steps.length) ∧
    (∀ h first steps, e.transfer = .commitBoth h first steps → n = steps.length →
      committed { s.store with headers := s.store.headers.set e.id h } (3 + 8 * bit h.isSome) steps.length) ∧
    (e.transfer = .fetch none → n = 0 → s.store.headers[e.id] = none → fetched none []) ∧
    (∀ h got, e.transfer = .fetch (some (some h, got)) → 1 ≤ n → n = h.count →
      fetched (some h) (got ++ [s.store.step (h.first + (n - 1))]))) ∧
  (∀ j : Fin 68, (imageOf none [])[j] = 0) ∧
  ∀ (h : ValidHeader) (steps : List Machine.Step),
    let image := imageOf (some h) steps
    image[0] = byte (1 + match h.envelope with
      | .off => 0
      | .decay .ms50 => 2 + 4 * 0
      | .decay .ms100 => 2 + 4 * 1
      | .decay .ms200 => 2 + 4 * 2
      | .decay .ms400 => 2 + 4 * 3) ∧
    image[1] = byte (match h.rep with
      | .once => 0
      | .loop => 1
      | .count k => k) ∧
    image[2] = byte h.count ∧ image[3] = byte h.first ∧
    (∀ (i : Fin 32) (d : Machine.Step), steps[i.val]? = some d →
      image[(⟨4 + 2 * i, by omega⟩ : Fin 68)] = byte ((match d.tone with
        | some t => t.val
        | none => 16) + 32 * (d.level - 1)) ∧
      image[(⟨5 + 2 * i, by omega⟩ : Fin 68)] = byte d.duration) ∧
    ∀ j : Fin 68, 4 + 2 * steps.length ≤ j.val → image[j] = 0

/-- DRDAT_ACCESS and RBDAT_READ (R122, R133): the byte at the address is driven or stored, and the address advances,
wrapping from 67 to 0; nothing else changes. -/
def Obligations.DataRegisters : Prop :=
  ∀ (s : State) (v : Byte), s.resetLow = false →
    let next (x : Fin 68) : Fin 68 := if h : x.val < 67 then ⟨x.val + 1, by omega⟩ else 0
    exec (.drdatAccess .read) s = .next { s with
      dataOut := some s.xfer.draft[s.xfer.dradr]
      xfer := { s.xfer with dradr := next s.xfer.dradr } } ∧
    exec (.drdatAccess (.write v)) s = .next { s with xfer :=
      { s.xfer with draft := s.xfer.draft.set s.xfer.dradr v, dradr := next s.xfer.dradr } } ∧
    exec .rbdatRead s = .next { s with
      dataOut := some s.xfer.image[s.xfer.rbadr]
      xfer := { s.xfer with rbadr := next s.xfer.rbadr } }

/-! ### Requests, sounds and voices (chapter 8) -/

/-- The ranking of two sounds (R142): priority, then kind in the order ALARM, REMINDER, RINGBACK, CHIME, then age, with
HORNTEST below all. For every list of requests, oldest first, the ranking names each sound that has a request exactly
once (R141), and one sound stands before another exactly when some request of the one ranks above, or equal and older
than, every request of the other: its best request is the better. The list of two shows it. -/
def Obligations.RankingKeys : Prop :=
  (∀ a b : Request, a.kind = .horntest → b.kind ≠ .horntest → a.rank < b.rank) ∧
  (∀ (a b : Request) (p q : Fin 4), a.kind ≠ .horntest → b.kind ≠ .horntest → a.priority = some p →
    b.priority = some q → p < q → a.rank < b.rank) ∧
  (∀ (a b : Request) (p : Fin 4), a.priority = some p → b.priority = some p →
    (a.kind = .alarm → (b.kind = .reminder ∨ b.kind = .ringback ∨ b.kind = .chime) → b.rank < a.rank) ∧
    (a.kind = .reminder → (b.kind = .ringback ∨ b.kind = .chime) → b.rank < a.rank) ∧
    (a.kind = .ringback → b.kind = .chime → b.rank < a.rank)) ∧
  (∀ a b : Request, a.sound ≠ b.sound →
    rankedSounds [a, b] = if a.rank < b.rank then [b.sound, a.sound] else [a.sound, b.sound]) ∧
  ∀ rs : List Request,
    (rankedSounds rs).Nodup ∧ (∀ x : Sound, x ∈ rankedSounds rs ↔ ∃ r ∈ rs, r.sound = x) ∧
    ∀ x ∈ rankedSounds rs, ∀ y ∈ rankedSounds rs, x ≠ y →
      ((rankedSounds rs).idxOf x < (rankedSounds rs).idxOf y ↔
        ∃ i : Fin rs.length, rs[i].sound = x ∧ ∀ j : Fin rs.length, rs[j].sound = y →
          rs[j].rank < rs[i].rank ∨ rs[j].rank = rs[i].rank ∧ i < j)

/-- CHIME_START and CHIME_STOP in ACTIVE (R139, R156, R157): START posts the request of CHPAT in place of one held, with
the next arrival number; when no header it could need is empty, the list is the old one without CHIME, and the new
request at its tail. STOP withdraws it, and changes nothing when none is held. The frame.
What a posting and a withdrawal are, for any source (R139, R140, R152): the request takes the next arrival number and
joins at the tail in place of one its source held, a voice that plays its sound gets the full number of passes plus one
and an unlimited count stays, and an occasion follows; a withdrawal takes the request out and an occasion follows, or
does nothing. -/
def Obligations.ChimeCommands : Prop :=
  (∀ s : State, s.resetLow = false → s.ctl.state = .active →
    let r : Request :=
      { source := .chime, kind := .chime, pattern := s.tones.chimePattern, rule := .once
        priority := some s.tones.chimePriority, arrival := s.tones.arrival }
    (∃ t, exec .chimeStart s = .next t ∧ t.tones.arrival = s.tones.arrival + 1 ∧ AnnunciationOnly s t ∧
      t = s.post .chime .chime s.tones.chimePattern .once (some s.tones.chimePriority) ∧
      ((∀ p : PatternId, (s.store.headers[p]).isSome = true) →
        t.tones.requests = (s.tones.requests.filter fun q => decide (q.source ≠ .chime)) ++ [r])) ∧
    ∀ w, (s.holdsRequest .chime = false → exec (.chimeStop w) s = .next s) ∧
      ∃ t, exec (.chimeStop w) s = .next t ∧ t = s.withdraw .chime ∧ t.holdsRequest .chime = false ∧
        AnnunciationOnly s t) ∧
  ∀ (s : State) (src : Source),
    let others := s.tones.requests.filter fun q => decide (q.source ≠ src)
    (∀ kind pattern rule priority,
      let r : Request :=
        { source := src, kind := kind, pattern := pattern, rule := rule, priority := priority
          arrival := s.tones.arrival }
      s.post src kind pattern rule priority = State.allocate { s with
        tones := { s.tones with requests := others ++ [r], arrival := s.tones.arrival + 1 }
        voices := s.voices.map fun v => v.map fun x : Playing =>
          if x.sound.pattern = pattern ∧ x.sound.rule = rule then
            { x with passes := match x.passes, rule, x.held.rep with
              | none, _, _ => none
              | some _, .header, .once => some 2
              | some _, .header, .count n => some (n + 1)
              | some _, .header, .loop => none
              | some _, .once, _ => some 2
              | some _, .loop, _ => none }
          else x }) ∧
    (s.holdsRequest src = true →
      s.withdraw src = State.allocate { s with tones := { s.tones with requests := others } }) ∧
    (s.holdsRequest src = false → s.withdraw src = s) ∧ (s.withdraw src).holdsRequest src = false

/-- VCNT_WRITE and the effective voice limit (R143): 1 to 4 is taken in every controller state, and is an allocation
occasion exactly when the limit changes; any other value is refused with BAD_VALUE.
What an occasion does while no header is empty (R144, R145, R147): it changes voices alone. A sound that plays and is
entitled keeps its voice and goes on where it was. A voice PLAYING afterwards serves an entitled sound; one that did
not play before starts at step 0 with the header and the step read and its full number of passes. Every entitled
sound plays. The only one that waited takes the lowest-numbered of the voices no entitled sound held; when every voice
was IDLE, the sounds take voices 0, 1, … in rank order.
Where the only entitled sound that waits finds its header empty (R147, R153): the entitled sounds keep their voices and
the others go IDLE, its requests go, with tone done for ALARM and RINGBACK, each makes a PATTERN_MISSING record in list
order, PATMISS is set, and the further occasion of R144 follows (DEDUCED, log 25). -/
def Obligations.VoiceCount : Prop :=
  (∀ s : State,
    (s.ctl.state = .active → s.supply.state = .ok → s.voiceLimit = s.tones.vcnt.toNat) ∧
    (s.ctl.state = .active → s.supply.state = .economy → s.voiceLimit = 1) ∧
    (s.ctl.state = .active → s.supply.state = .blackout → s.voiceLimit = 0) ∧
    (s.ctl.state ≠ .active → s.voiceLimit = 0)) ∧
  (∀ (s : State) (v : Byte), s.resetLow = false →
    let u := { s with tones := { s.tones with vcnt := v } }
    (Within 1 4 v.toNat →
      (u.voiceLimit = s.voiceLimit → exec (.vcntWrite v) s = .next u) ∧
      (u.voiceLimit ≠ s.voiceLimit → exec (.vcntWrite v) s = .next u.allocate) ∧
      AnnunciationOnly u u.allocate) ∧
    (¬Within 1 4 v.toNat → exec (.vcntWrite v) s = .next (s.refuse .vcnt .badValue))) ∧
  (∀ s : State, (∀ p : PatternId, (s.store.headers[p]).isSome = true) → s.playingSounds.Nodup → s.voiceLimit ≤ 4 →
    let started (x : Sound) (h : ValidHeader) : Playing :=
      let d := s.store.step h.first
      { sound := x, held := h, stepIndex := 0, latched := d, remaining := d.duration * 10
        passes := match x.rule, h.rep with
          | .header, .once => some 1
          | .header, .count n => some n
          | .header, .loop => none
          | .once, _ => some 1
          | .loop, _ => none
        envLevel := d.level, envCount := 0 }
    ∃ vs : Vector Voice 4, s.allocate = { s with voices := vs } ∧
      (∀ (v : VoiceId) (x : Playing), s.voices[v] = some x → x.sound ∈ s.entitled → vs[v] = some x) ∧
      (∀ (v : VoiceId) (x : Playing), vs[v] = some x → x.sound ∈ s.entitled ∧
        (s.voices[v] = some x ∨ x.sound ∉ s.playingSounds ∧
          ∃ h ∈ s.store.headers[x.sound.pattern], x = started x.sound h)) ∧
      (∀ x ∈ s.entitled, ∃ v : VoiceId, (vs[v]).map Playing.sound = some x) ∧
      (∀ x ∈ s.entitled, x ∉ s.playingSounds → (∀ y ∈ s.entitled, y ≠ x → y ∈ s.playingSounds) →
        ∀ v : VoiceId, (∀ y : Playing, s.voices[v] = some y → y.sound ∉ s.entitled) →
          (∀ u : VoiceId, u < v → ∃ y : Playing, s.voices[u] = some y ∧ y.sound ∈ s.entitled) →
          (vs[v]).map Playing.sound = some x) ∧
      ((∀ v : VoiceId, s.voices[v] = none) → ∀ v : VoiceId, (vs[v]).map Playing.sound = s.entitled[v.val]?)) ∧
  ∀ (s : State) (x : Sound), s.playingSounds.Nodup → s.voiceLimit ≤ 4 → x ∈ s.entitled → x ∉ s.playingSounds →
    (∀ y ∈ s.entitled, y ≠ x → y ∈ s.playingSounds) → s.store.headers[x.pattern] = none →
    let mine := s.tones.requests.filter fun r => decide (r.sound = x)
    let removed : State := { s with
      voices := s.voices.map fun v => v.filter fun y => decide (y.sound ∈ s.entitled)
      tones := { s.tones with requests := s.tones.requests.filter fun r => decide (r.sound ≠ x) }
      points := Vector.ofFn fun p : PointId =>
        if mine.any fun r => decide (r.source = .point p ∧ (r.kind = .alarm ∨ r.kind = .ringback)) then
          { s.point p with seq := { (s.point p).seq with toneDone := true } }
        else s.point p }
    s.allocate = ((mine.foldl (fun w r => w.record .patternMissing
      (match r.source with
        | .point p => some p
        | .chime | .horntest => none)
      (match r.kind with
        | .alarm => 1 | .ringback => 2 | .reminder => 3 | .chime => 4 | .horntest => 5)
      r.pattern) removed).setCause .patmiss).allocate

/-- STEP_BOUNDARY and ENVELOPE_DECAY when they are due (R148 to R151, R153). The header read is taken: first step,
count and envelope, and under HEADER a changed repeat with its full number of passes, the pass in progress counted as
one of them (R150). The next step of the pass, or a new pass while passes are left, is latched; the last pass completes
the sound: its voice goes IDLE, its requests go, with tone done for ALARM and RINGBACK, and an occasion follows (R151).
An empty header ends it as missing: besides, one PATTERN_MISSING record for each request in list order, with its point,
kind and pattern, and PATMISS, before the occasion (R153). A decay weakens the level by one, a level of 8 stays. -/
def Obligations.VoiceSteps : Prop :=
  ∀ (s : State) (v : VoiceId) (x : Playing), s.resetLow = false → s.voices[v] = some x →
    let mine := s.tones.requests.filter fun r => decide (r.sound = x.sound)
    let removed : State := { s with
      voices := s.voices.set v none
      tones := { s.tones with requests := s.tones.requests.filter fun r => decide (r.sound ≠ x.sound) }
      points := Vector.ofFn fun p : PointId =>
        if mine.any fun r => decide (r.source = .point p ∧ (r.kind = .alarm ∨ r.kind = .ringback)) then
          { s.point p with seq := { (s.point p).seq with toneDone := true } }
        else s.point p }
    let goesOn (h : ValidHeader) (i : Nat) (passes : Option Nat) : Prop :=
      let d := s.store.step (h.first + i)
      exec (.stepBoundary v) s = .next { s with voices := s.voices.set v (some
        { x with
          held := h
          stepIndex := i
          latched := d
          remaining := d.duration * 10
          passes := passes
          envLevel := d.level
          envCount := 0 }) }
    (∀ read, x.remaining = 0 → s.store.headers[x.sound.pattern] = some read →
      let h := if x.sound.rule = .header then read else { read with rep := x.held.rep }
      let passes :=
        if x.sound.rule = .header ∧ read.rep ≠ x.held.rep then
          match read.rep with
          | .once => some 1
          | .count n => some n
          | .loop => none
        else x.passes
      (x.stepIndex + 1 < h.count → goesOn h (x.stepIndex + 1) passes) ∧
      (h.count ≤ x.stepIndex + 1 → passes = none → goesOn h 0 none) ∧
      (∀ n, h.count ≤ x.stepIndex + 1 → passes = some (n + 2) → goesOn h 0 (some (n + 1))) ∧
      (h.count ≤ x.stepIndex + 1 → passes = some 1 →
        ∃ t, exec (.stepBoundary v) s = .next t ∧ t = removed.allocate ∧ (∀ r ∈ t.tones.requests, r.sound ≠ x.sound) ∧
          (∀ p : PointId, (∃ r ∈ s.tones.requests, r.source = .point p ∧ r.sound = x.sound ∧
            (r.kind = .alarm ∨ r.kind = .ringback)) → (t.point p).seq.toneDone = true) ∧
          AnnunciationOnly s t)) ∧
    (x.remaining = 0 → s.store.headers[x.sound.pattern] = none →
      ∃ t, exec (.stepBoundary v) s = .next t ∧
        t = ((mine.foldl (fun w r => w.record .patternMissing
          (match r.source with
            | .point p => some p
            | .chime | .horntest => none)
          (match r.kind with
            | .alarm => 1 | .ringback => 2 | .reminder => 3 | .chime => 4 | .horntest => 5)
          r.pattern) removed).setCause .patmiss).allocate ∧
        (∀ r ∈ t.tones.requests, r.sound ≠ x.sound) ∧ t.irq.flag .patmiss = true ∧ AnnunciationOnly s t) ∧
    (∀ i : Interval, x.held.envelope = .decay i → i.ms ≤ x.envCount → x.remaining ≠ 0 →
      exec (.envelopeDecay v) s = .next { s with voices := s.voices.set v (some
        { x with envLevel := if x.envLevel < 8 then x.envLevel + 1 else 8, envCount := 0 }) })

/-! ### Supply Guard (R169 to R173) -/

/-- SUPPLY_SAMPLE when it is due: each transition leaving the state counts up while its condition holds and returns to
0 when it does not; the count that reaches 3 changes the state, BLACKOUT before ECONOMY, with every count 0; then the
SUPPLY record is made and SUPPLY set, and an occasion is taken exactly when the limit has changed (R173), so that the
voices follow the new limit: they serve the entitled sounds if they did before. In ECONOMY and OK the first transition
is the one between them. -/
def Obligations.SupplySampling : Prop :=
  ∀ s : State, s.resetLow = false → s.supply.sampleDue = true →
    let v := s.pins.vdrv.toNat
    let meets1 : Bool := match s.supply.state with
      | .ok => decide (v ≤ s.supply.ecolv.toNat)
      | .economy => decide (s.supply.ecolv.toNat + s.supply.echys.toNat ≤ v)
      | .blackout => decide (3 ≤ v)
    let meets2 : Bool := decide (s.supply.state ≠ .blackout) && decide (v ≤ 1)
    let c1 := if meets1 then s.supply.count1 + 1 else 0
    let c2 := if meets2 then s.supply.count2 + 1 else 0
    let changes (dest : SupplyState) : Prop :=
      let u := { s with supply :=
        { s.supply with state := dest, last := s.pins.vdrv, count1 := 0, count2 := 0, sampleDue := false } }
      let w := (u.record .supply none 0 (dest.code + 16 * v)).setCause .supply
      ∃ t, exec .supplySample s = .next t ∧ t = (if w.voiceLimit = s.voiceLimit then w else w.allocate) ∧
        (s.EntitledPlay → t.EntitledPlay ∧ t.playingSounds.length ≤ t.voiceLimit) ∧
        AnnunciationOnly u t ∧ t.irq.flag .supply = true ∧
        (s.ctl.state ≠ .active → t = (u.record .supply none 0 (dest.code + 16 * v)).setCause .supply) ∧
        (dest = .blackout → (s.voiceLimit = 0 → s.playingSounds = []) → t.playingSounds = [])
    (c1 < 3 → c2 < 3 → exec .supplySample s = .next { s with supply :=
      { s.supply with last := s.pins.vdrv, count1 := c1, count2 := c2, sampleDue := false } }) ∧
    (3 ≤ c2 → changes .blackout) ∧
    (c2 < 3 → 3 ≤ c1 → changes (if s.supply.state = .economy then .ok else .economy))

/-! ### Event Queue (chapter 10) and Interrupt Unit (R198, R199) -/

/-- The insertion of a record (R176, R178 to R181): a masked category leaves everything as it is; else the record takes
the counter's number and the time, joins at the newest end, a full queue loses its oldest, and EVQNE, EVQOV and EVQTH
are set as the table of R179 and the threshold give. -/
def Obligations.RecordInsertion : Prop :=
  ∀ (s : State) (k : Kind) (p : Option (Fin 32)) (source detail : Nat),
    let t := s.record k p source detail
    let r : Record :=
      { kind := k, seq := s.evq.seq, time := s.time.clock, point := p, source := byte source, detail := byte detail }
    (s.evq.mask.getLsbD k.category.index = true → t = s) ∧
    (s.evq.mask.getLsbD k.category.index = false →
      t = { s with evq := t.evq, irq := t.irq } ∧
      t.evq = { s.evq with
        records := (if s.evq.records.length < 64 then s.evq.records else s.evq.records.drop 1) ++ [r]
        seq := s.evq.seq + 1 } ∧
      t.irq = { s.irq with flags := t.irq.flags } ∧
      ∀ c, t.irq.flag c = (s.irq.flag c || decide (
        c = .evqne ∧ s.evq.records = [] ∨ c = .evqov ∧ 64 ≤ s.evq.records.length ∨
          c = .evqth ∧ s.evq.threshold.toNat ≤ min (s.evq.records.length + 1) 64)))

/-- EV0_READ, EV9_READ and FLUSH (R182 to R184): EV0 latches the oldest record and returns its kind; EV9 returns the
latched detail, removes the oldest record when the numbers are equal, and releases the latch; FLUSH empties the queue
and releases the latch, where R183 has the latched copy stay (DESIGN CHOICE, log 30). Nothing else changes. -/
def Obligations.EventReads : Prop :=
  ∀ s : State, s.resetLow = false →
    (s.evq.records = [] →
      exec .ev0Read s = .next { s with dataOut := some 0, evq := { s.evq with latch := none } }) ∧
    (∀ r rest, s.evq.records = r :: rest →
      exec .ev0Read s = .next { s with dataOut := some (byte r.kind.code), evq := { s.evq with latch := some r } }) ∧
    (s.evq.latch = none → exec .ev9Read s = .next { s with dataOut := some 0 }) ∧
    (∀ l r rest, s.evq.latch = some l → s.evq.records = r :: rest → r.seq = l.seq →
      exec .ev9Read s = .next { s with
        dataOut := some l.detail, evq := { s.evq with records := rest, latch := none } }) ∧
    (∀ l r rest, s.evq.latch = some l → s.evq.records = r :: rest → r.seq ≠ l.seq →
      exec .ev9Read s = .next { s with dataOut := some l.detail, evq := { s.evq with latch := none } }) ∧
    exec .flush s = .next { s with evq := { s.evq with records := [], latch := none } }

/-- ICS_WRITE (R185, R198): a 1 at a flag's position clears it, but EVQNE while the Event Queue holds a record; every
other flag stays, and nothing else changes.
IRQ and IVEC (R199): a cause is asserted by its flag, its enable and a level above the threshold; IRQ is low while
any is; IVEC is 0 exactly when none is, and otherwise the code of a cause, and that the asserted cause of the highest
level, a tie going to the earlier category of FAULT, POINT, OPERATOR, SYSTEM, QUEUE, TRANSFER, and within one to the
lower code. -/
def Obligations.InterruptRules : Prop :=
  (∀ (s : State) (h : WhichByte) (v : Byte), s.resetLow = false →
     let written (c : Cause) : Bool := match h with
       | .low => decide (c.code ≤ 8) && v.getLsbD (c.code - 1)
       | .high => decide (9 ≤ c.code) && v.getLsbD (c.code - 9)
     ∃ t, exec (.icsWrite h v) s = .next t ∧ t = { s with irq := { s.irq with flags := t.irq.flags } } ∧
       ∀ c, t.irq.flag c = (s.irq.flag c && (!written c || decide (c = .evqne ∧ s.evq.records ≠ [])))) ∧
  (∀ u : Irq,
     let order : List CauseCategory := [.fault, .point, .operator, .system, .queue, .transfer]
     (∀ c, u.asserted c = true ↔
       u.flag c = true ∧ u.enables.getLsbD (c.code - 1) = true ∧ u.threshold < u.level c.category) ∧
     (u.irqLow = true ↔ ∃ c, u.asserted c = true) ∧
     (u.vector = 0 ↔ ∀ c, u.asserted c = false) ∧
     ((∃ c, u.asserted c = true) → ∃ c : Cause, u.asserted c = true ∧ u.vector = c.code) ∧
     ∀ c, u.vector = c.code → u.asserted c = true ∧ ∀ d, u.asserted d = true →
       u.level d.category < u.level c.category ∨
       u.level d.category = u.level c.category ∧
         (order.idxOf c.category < order.idxOf d.category ∨ c.category = d.category ∧ c.code ≤ d.code))

/-! ### Invariants that every step keeps -/

/-- Every step keeps the Event Queue: at most 64 records, consecutive numbers, the latch, EVQNE (R178, R182, R185). -/
def Obligations.StepKeepsEvents : Prop :=
  ∀ s t : State, s.EventsKept → step s = .next t → t.EventsKept

/-- Every step keeps every register and count in the range its rule gives. -/
def Obligations.StepKeepsRanges : Prop :=
  ∀ s t : State, s.RangesKept → step s = .next t → t.RangesKept

/-- Every step keeps the store and the transfer queue legal (R105, R107, R129) and, with them, the voices' records in
their ranges (R146). -/
def Obligations.StepKeepsStoreLegal : Prop :=
  (∀ s t : State, s.StoreLegal → step s = .next t → t.StoreLegal) ∧
  ∀ s t : State, s.StoreLegal → s.VoicesInRange → step s = .next t → t.VoicesInRange

/-- Every step keeps at most one request for each source, each as the table of R138 gives it. -/
def Obligations.StepKeepsRequests : Prop :=
  ∀ s t : State, s.RequestsKept → step s = .next t → t.RequestsKept

/-- Every step keeps the PLAYING voices serving exactly the entitled sounds, and with it the three sentences of R144:
no more voices than the limit, no two for one sound, a request for each sound that plays. -/
def Obligations.StepKeepsVoices : Prop :=
  ∀ s t : State, s.EntitledPlay → step s = .next t → t.EntitledPlay ∧ t.VoicesKept

/-- Every step keeps what the controller state fixes of the run (R8, R21, R65, R81, R118, R160, R190). -/
def Obligations.StepKeepsRun : Prop :=
  ∀ s t : State, s.RunKept → step s = .next t → t.RunKept

/-- With the run kept, every step keeps every point's qualification (R6, R11, R12, R17, R18). -/
def Obligations.StepKeepsQualification : Prop :=
  ∀ s t : State, s.RunKept → s.QualKept → step s = .next t → t.QualKept

/-- With the run kept, every step keeps every point's sequence (R6, R23, R25 to R31, R36, R44). -/
def Obligations.StepKeepsSequences : Prop :=
  ∀ s t : State, s.RunKept → s.SequencesKept → step s = .next t → t.SequencesKept

/-- With the run kept, every step keeps the law of R59 on marks and groups. -/
def Obligations.StepKeepsMarks : Prop :=
  ∀ s t : State, s.RunKept → s.SequencesKept → s.MarksKept → step s = .next t → t.MarksKept

/-- Every step keeps CSYNC to a LEADER, the lock and low periods to a FOLLOWER, and the cadence at its start in INIT. -/
def Obligations.StepKeepsSync : Prop :=
  ∀ s t : State, s.SyncKept → step s = .next t → t.SyncKept

/-- Every invariant above holds right after power-on reset. -/
def Obligations.InvariantsAtReset : Prop :=
  State.reset.EventsKept ∧ State.reset.RangesKept ∧ State.reset.StoreLegal ∧ State.reset.VoicesInRange ∧
  State.reset.RequestsKept ∧ State.reset.EntitledPlay ∧ State.reset.VoicesKept ∧ State.reset.RunKept ∧
  State.reset.QualKept ∧ State.reset.SequencesKept ∧ State.reset.MarksKept ∧ State.reset.SyncKept
end

