-- ==== Sys2Proof/Laws/State.lean ====
section
/-! SUPPORT. For every operation that updates State: the fields it keeps, true by definition, as simp rules. -/

namespace Sys2Proof.Machine

/-! ### The shared operations -/

@[simp] theorem State.record_keeps (s : State) (k : Kind) (p : Option (Fin 32)) (source detail : Nat) :
    (s.record k p source detail).pending = s.pending ∧ (s.record k p source detail).pins = s.pins ∧
    (s.record k p source detail).resetLow = s.resetLow ∧ (s.record k p source detail).dataOut = s.dataOut ∧
    (s.record k p source detail).ctl = s.ctl ∧ (s.record k p source detail).time = s.time ∧
    (s.record k p source detail).scan = s.scan ∧ (s.record k p source detail).window = s.window ∧
    (s.record k p source detail).points = s.points ∧ (s.record k p source detail).gsel = s.gsel ∧
    (s.record k p source detail).groups = s.groups ∧ (s.record k p source detail).panel = s.panel ∧
    (s.record k p source detail).store = s.store ∧ (s.record k p source detail).xfer = s.xfer ∧
    (s.record k p source detail).tones = s.tones ∧ (s.record k p source detail).voices = s.voices ∧
    (s.record k p source detail).lamps = s.lamps ∧ (s.record k p source detail).supply = s.supply ∧
    (s.record k p source detail).holds = s.holds := by
  refine ⟨rfl, rfl, rfl, rfl, rfl, rfl, rfl, rfl, rfl, rfl, rfl, rfl, rfl, rfl, rfl, rfl, rfl, rfl, rfl⟩

@[simp] theorem State.setCause_keeps (s : State) (c : Cause) :
    (s.setCause c).pending = s.pending ∧ (s.setCause c).pins = s.pins ∧ (s.setCause c).resetLow = s.resetLow ∧
    (s.setCause c).dataOut = s.dataOut ∧ (s.setCause c).ctl = s.ctl ∧ (s.setCause c).time = s.time ∧
    (s.setCause c).scan = s.scan ∧ (s.setCause c).window = s.window ∧ (s.setCause c).points = s.points ∧
    (s.setCause c).gsel = s.gsel ∧ (s.setCause c).groups = s.groups ∧ (s.setCause c).panel = s.panel ∧
    (s.setCause c).store = s.store ∧ (s.setCause c).xfer = s.xfer ∧ (s.setCause c).tones = s.tones ∧
    (s.setCause c).voices = s.voices ∧ (s.setCause c).lamps = s.lamps ∧ (s.setCause c).supply = s.supply ∧
    (s.setCause c).evq = s.evq ∧ (s.setCause c).holds = s.holds := by
  refine ⟨rfl, rfl, rfl, rfl, rfl, rfl, rfl, rfl, rfl, rfl, rfl, rfl, rfl, rfl, rfl, rfl, rfl, rfl, rfl, rfl⟩

@[simp] theorem State.refuse_keeps (s : State) (r : Reg) (why : Reason) :
    (s.refuse r why).pending = s.pending ∧ (s.refuse r why).pins = s.pins ∧
    (s.refuse r why).resetLow = s.resetLow ∧ (s.refuse r why).dataOut = s.dataOut ∧
    (s.refuse r why).time = s.time ∧ (s.refuse r why).scan = s.scan ∧ (s.refuse r why).window = s.window ∧
    (s.refuse r why).points = s.points ∧ (s.refuse r why).gsel = s.gsel ∧ (s.refuse r why).groups = s.groups ∧
    (s.refuse r why).panel = s.panel ∧ (s.refuse r why).store = s.store ∧ (s.refuse r why).xfer = s.xfer ∧
    (s.refuse r why).tones = s.tones ∧ (s.refuse r why).voices = s.voices ∧ (s.refuse r why).lamps = s.lamps ∧
    (s.refuse r why).supply = s.supply ∧ (s.refuse r why).evq = s.evq ∧ (s.refuse r why).holds = s.holds := by
  refine ⟨rfl, rfl, rfl, rfl, rfl, rfl, rfl, rfl, rfl, rfl, rfl, rfl, rfl, rfl, rfl, rfl, rfl, rfl, rfl⟩

@[simp] theorem State.refuseCommand_keeps (s : State) (r : Reg) (why : Reason) :
    (s.refuseCommand r why).pending = s.pending ∧ (s.refuseCommand r why).pins = s.pins ∧
    (s.refuseCommand r why).resetLow = s.resetLow ∧ (s.refuseCommand r why).dataOut = s.dataOut ∧
    (s.refuseCommand r why).time = s.time ∧ (s.refuseCommand r why).scan = s.scan ∧
    (s.refuseCommand r why).window = s.window ∧ (s.refuseCommand r why).points = s.points ∧
    (s.refuseCommand r why).gsel = s.gsel ∧ (s.refuseCommand r why).groups = s.groups ∧
    (s.refuseCommand r why).panel = s.panel ∧ (s.refuseCommand r why).store = s.store ∧
    (s.refuseCommand r why).xfer = s.xfer ∧ (s.refuseCommand r why).tones = s.tones ∧
    (s.refuseCommand r why).voices = s.voices ∧ (s.refuseCommand r why).lamps = s.lamps ∧
    (s.refuseCommand r why).supply = s.supply ∧ (s.refuseCommand r why).holds = s.holds := by
  refine ⟨rfl, rfl, rfl, rfl, rfl, rfl, rfl, rfl, rfl, rfl, rfl, rfl, rfl, rfl, rfl, rfl, rfl, rfl⟩

@[simp] theorem State.modSeq_keeps (s : State) (p : PointId) (f : Seq → Seq) :
    (s.modSeq p f).pending = s.pending ∧ (s.modSeq p f).pins = s.pins ∧ (s.modSeq p f).resetLow = s.resetLow ∧
    (s.modSeq p f).dataOut = s.dataOut ∧ (s.modSeq p f).ctl = s.ctl ∧ (s.modSeq p f).time = s.time ∧
    (s.modSeq p f).scan = s.scan ∧ (s.modSeq p f).window = s.window ∧ (s.modSeq p f).gsel = s.gsel ∧
    (s.modSeq p f).groups = s.groups ∧ (s.modSeq p f).panel = s.panel ∧ (s.modSeq p f).store = s.store ∧
    (s.modSeq p f).xfer = s.xfer ∧ (s.modSeq p f).tones = s.tones ∧ (s.modSeq p f).voices = s.voices ∧
    (s.modSeq p f).lamps = s.lamps ∧ (s.modSeq p f).supply = s.supply ∧ (s.modSeq p f).evq = s.evq ∧
    (s.modSeq p f).irq = s.irq ∧ (s.modSeq p f).holds = s.holds := by
  refine ⟨rfl, rfl, rfl, rfl, rfl, rfl, rfl, rfl, rfl, rfl, rfl, rfl, rfl, rfl, rfl, rfl, rfl, rfl, rfl, rfl⟩

@[simp] theorem State.modCfg_keeps (s : State) (p : PointId) (f : PointConfig → PointConfig) :
    (s.modCfg p f).pending = s.pending ∧ (s.modCfg p f).pins = s.pins ∧ (s.modCfg p f).resetLow = s.resetLow ∧
    (s.modCfg p f).dataOut = s.dataOut ∧ (s.modCfg p f).ctl = s.ctl ∧ (s.modCfg p f).time = s.time ∧
    (s.modCfg p f).scan = s.scan ∧ (s.modCfg p f).window = s.window ∧ (s.modCfg p f).gsel = s.gsel ∧
    (s.modCfg p f).groups = s.groups ∧ (s.modCfg p f).panel = s.panel ∧ (s.modCfg p f).store = s.store ∧
    (s.modCfg p f).xfer = s.xfer ∧ (s.modCfg p f).tones = s.tones ∧ (s.modCfg p f).voices = s.voices ∧
    (s.modCfg p f).lamps = s.lamps ∧ (s.modCfg p f).supply = s.supply ∧ (s.modCfg p f).evq = s.evq ∧
    (s.modCfg p f).irq = s.irq ∧ (s.modCfg p f).holds = s.holds := by
  refine ⟨rfl, rfl, rfl, rfl, rfl, rfl, rfl, rfl, rfl, rfl, rfl, rfl, rfl, rfl, rfl, rfl, rfl, rfl, rfl, rfl⟩

@[simp] theorem State.setGroup_keeps (s : State) (g : GroupId) (r : Group) :
    (s.setGroup g r).pending = s.pending ∧ (s.setGroup g r).pins = s.pins ∧
    (s.setGroup g r).resetLow = s.resetLow ∧ (s.setGroup g r).dataOut = s.dataOut ∧
    (s.setGroup g r).ctl = s.ctl ∧ (s.setGroup g r).time = s.time ∧ (s.setGroup g r).scan = s.scan ∧
    (s.setGroup g r).window = s.window ∧ (s.setGroup g r).points = s.points ∧ (s.setGroup g r).gsel = s.gsel ∧
    (s.setGroup g r).panel = s.panel ∧ (s.setGroup g r).store = s.store ∧ (s.setGroup g r).xfer = s.xfer ∧
    (s.setGroup g r).tones = s.tones ∧ (s.setGroup g r).voices = s.voices ∧ (s.setGroup g r).lamps = s.lamps ∧
    (s.setGroup g r).supply = s.supply ∧ (s.setGroup g r).evq = s.evq ∧ (s.setGroup g r).irq = s.irq ∧
    (s.setGroup g r).holds = s.holds := by
  refine ⟨rfl, rfl, rfl, rfl, rfl, rfl, rfl, rfl, rfl, rfl, rfl, rfl, rfl, rfl, rfl, rfl, rfl, rfl, rfl, rfl⟩

@[simp] theorem State.copyHolds_keeps (s : State) (values : List (Partner × Byte)) :
    (s.copyHolds values).pending = s.pending ∧ (s.copyHolds values).pins = s.pins ∧
    (s.copyHolds values).resetLow = s.resetLow ∧ (s.copyHolds values).dataOut = s.dataOut ∧
    (s.copyHolds values).ctl = s.ctl ∧ (s.copyHolds values).time = s.time ∧
    (s.copyHolds values).scan = s.scan ∧ (s.copyHolds values).window = s.window ∧
    (s.copyHolds values).points = s.points ∧ (s.copyHolds values).gsel = s.gsel ∧
    (s.copyHolds values).groups = s.groups ∧ (s.copyHolds values).panel = s.panel ∧
    (s.copyHolds values).store = s.store ∧ (s.copyHolds values).xfer = s.xfer ∧
    (s.copyHolds values).tones = s.tones ∧ (s.copyHolds values).voices = s.voices ∧
    (s.copyHolds values).lamps = s.lamps ∧ (s.copyHolds values).supply = s.supply ∧
    (s.copyHolds values).evq = s.evq ∧ (s.copyHolds values).irq = s.irq := by
  refine ⟨rfl, rfl, rfl, rfl, rfl, rfl, rfl, rfl, rfl, rfl, rfl, rfl, rfl, rfl, rfl, rfl, rfl, rfl, rfl, rfl⟩

@[simp] theorem State.drives_keeps (s : State) (v : Byte) :
    (s.drives v).pending = s.pending ∧ (s.drives v).pins = s.pins ∧ (s.drives v).resetLow = s.resetLow ∧
    (s.drives v).ctl = s.ctl ∧ (s.drives v).time = s.time ∧ (s.drives v).scan = s.scan ∧
    (s.drives v).window = s.window ∧ (s.drives v).points = s.points ∧ (s.drives v).gsel = s.gsel ∧
    (s.drives v).groups = s.groups ∧ (s.drives v).panel = s.panel ∧ (s.drives v).store = s.store ∧
    (s.drives v).xfer = s.xfer ∧ (s.drives v).tones = s.tones ∧ (s.drives v).voices = s.voices ∧
    (s.drives v).lamps = s.lamps ∧ (s.drives v).supply = s.supply ∧ (s.drives v).evq = s.evq ∧
    (s.drives v).irq = s.irq ∧ (s.drives v).holds = s.holds := by
  refine ⟨rfl, rfl, rfl, rfl, rfl, rfl, rfl, rfl, rfl, rfl, rfl, rfl, rfl, rfl, rfl, rfl, rfl, rfl, rfl, rfl⟩

@[simp] theorem State.reloadStaging_keeps (s : State) :
    (s.reloadStaging).pending = s.pending ∧ (s.reloadStaging).pins = s.pins ∧
    (s.reloadStaging).resetLow = s.resetLow ∧ (s.reloadStaging).dataOut = s.dataOut ∧
    (s.reloadStaging).ctl = s.ctl ∧ (s.reloadStaging).time = s.time ∧ (s.reloadStaging).scan = s.scan ∧
    (s.reloadStaging).points = s.points ∧ (s.reloadStaging).gsel = s.gsel ∧
    (s.reloadStaging).groups = s.groups ∧ (s.reloadStaging).panel = s.panel ∧
    (s.reloadStaging).store = s.store ∧ (s.reloadStaging).xfer = s.xfer ∧ (s.reloadStaging).tones = s.tones ∧
    (s.reloadStaging).voices = s.voices ∧ (s.reloadStaging).lamps = s.lamps ∧
    (s.reloadStaging).supply = s.supply ∧ (s.reloadStaging).evq = s.evq ∧ (s.reloadStaging).irq = s.irq ∧
    (s.reloadStaging).holds = s.holds := by
  refine ⟨rfl, rfl, rfl, rfl, rfl, rfl, rfl, rfl, rfl, rfl, rfl, rfl, rfl, rfl, rfl, rfl, rfl, rfl, rfl, rfl⟩

@[simp] theorem State.controllerRecord_keeps (s : State) (left : CtlState) (why : CtlReason) :
    (s.controllerRecord left why).pending = s.pending ∧ (s.controllerRecord left why).pins = s.pins ∧
    (s.controllerRecord left why).resetLow = s.resetLow ∧ (s.controllerRecord left why).dataOut = s.dataOut ∧
    (s.controllerRecord left why).ctl = s.ctl ∧ (s.controllerRecord left why).time = s.time ∧
    (s.controllerRecord left why).scan = s.scan ∧ (s.controllerRecord left why).window = s.window ∧
    (s.controllerRecord left why).points = s.points ∧ (s.controllerRecord left why).gsel = s.gsel ∧
    (s.controllerRecord left why).groups = s.groups ∧ (s.controllerRecord left why).panel = s.panel ∧
    (s.controllerRecord left why).store = s.store ∧ (s.controllerRecord left why).xfer = s.xfer ∧
    (s.controllerRecord left why).tones = s.tones ∧ (s.controllerRecord left why).voices = s.voices ∧
    (s.controllerRecord left why).lamps = s.lamps ∧ (s.controllerRecord left why).supply = s.supply ∧
    (s.controllerRecord left why).holds = s.holds := by
  refine ⟨rfl, rfl, rfl, rfl, rfl, rfl, rfl, rfl, rfl, rfl, rfl, rfl, rfl, rfl, rfl, rfl, rfl, rfl, rfl⟩

@[simp] theorem State.setCtl_keeps (s : State) (c : CtlState) :
    (s.setCtl c).pending = s.pending ∧ (s.setCtl c).pins = s.pins ∧ (s.setCtl c).resetLow = s.resetLow ∧
    (s.setCtl c).dataOut = s.dataOut ∧ (s.setCtl c).time = s.time ∧ (s.setCtl c).scan = s.scan ∧
    (s.setCtl c).window = s.window ∧ (s.setCtl c).points = s.points ∧ (s.setCtl c).gsel = s.gsel ∧
    (s.setCtl c).groups = s.groups ∧ (s.setCtl c).panel = s.panel ∧ (s.setCtl c).store = s.store ∧
    (s.setCtl c).xfer = s.xfer ∧ (s.setCtl c).tones = s.tones ∧ (s.setCtl c).voices = s.voices ∧
    (s.setCtl c).lamps = s.lamps ∧ (s.setCtl c).supply = s.supply ∧ (s.setCtl c).evq = s.evq ∧
    (s.setCtl c).irq = s.irq ∧ (s.setCtl c).holds = s.holds := by
  refine ⟨rfl, rfl, rfl, rfl, rfl, rfl, rfl, rfl, rfl, rfl, rfl, rfl, rfl, rfl, rfl, rfl, rfl, rfl, rfl, rfl⟩

/-! ### The operations of the blocks -/

@[simp] theorem State.setVoice_keeps (s : State) (v : VoiceId) (x : Voice) :
    (s.setVoice v x).pending = s.pending ∧ (s.setVoice v x).pins = s.pins ∧
    (s.setVoice v x).resetLow = s.resetLow ∧ (s.setVoice v x).dataOut = s.dataOut ∧
    (s.setVoice v x).ctl = s.ctl ∧ (s.setVoice v x).time = s.time ∧ (s.setVoice v x).scan = s.scan ∧
    (s.setVoice v x).window = s.window ∧ (s.setVoice v x).points = s.points ∧ (s.setVoice v x).gsel = s.gsel ∧
    (s.setVoice v x).groups = s.groups ∧ (s.setVoice v x).panel = s.panel ∧ (s.setVoice v x).store = s.store ∧
    (s.setVoice v x).xfer = s.xfer ∧ (s.setVoice v x).tones = s.tones ∧ (s.setVoice v x).lamps = s.lamps ∧
    (s.setVoice v x).supply = s.supply ∧ (s.setVoice v x).evq = s.evq ∧ (s.setVoice v x).irq = s.irq ∧
    (s.setVoice v x).holds = s.holds := by
  refine ⟨rfl, rfl, rfl, rfl, rfl, rfl, rfl, rfl, rfl, rfl, rfl, rfl, rfl, rfl, rfl, rfl, rfl, rfl, rfl, rfl⟩

@[simp] theorem State.removeSound_keeps (s : State) (x : Sound) :
    (s.removeSound x).pending = s.pending ∧ (s.removeSound x).pins = s.pins ∧
    (s.removeSound x).resetLow = s.resetLow ∧ (s.removeSound x).dataOut = s.dataOut ∧
    (s.removeSound x).ctl = s.ctl ∧ (s.removeSound x).time = s.time ∧ (s.removeSound x).scan = s.scan ∧
    (s.removeSound x).window = s.window ∧ (s.removeSound x).gsel = s.gsel ∧
    (s.removeSound x).groups = s.groups ∧ (s.removeSound x).panel = s.panel ∧
    (s.removeSound x).store = s.store ∧ (s.removeSound x).xfer = s.xfer ∧ (s.removeSound x).voices = s.voices ∧
    (s.removeSound x).lamps = s.lamps ∧ (s.removeSound x).supply = s.supply ∧ (s.removeSound x).evq = s.evq ∧
    (s.removeSound x).irq = s.irq ∧ (s.removeSound x).holds = s.holds := by
  refine ⟨rfl, rfl, rfl, rfl, rfl, rfl, rfl, rfl, rfl, rfl, rfl, rfl, rfl, rfl, rfl, rfl, rfl, rfl, rfl⟩

@[simp] theorem State.missingRecord_keeps (s : State) (r : Request) :
    (s.missingRecord r).pending = s.pending ∧ (s.missingRecord r).pins = s.pins ∧
    (s.missingRecord r).resetLow = s.resetLow ∧ (s.missingRecord r).dataOut = s.dataOut ∧
    (s.missingRecord r).ctl = s.ctl ∧ (s.missingRecord r).time = s.time ∧ (s.missingRecord r).scan = s.scan ∧
    (s.missingRecord r).window = s.window ∧ (s.missingRecord r).points = s.points ∧
    (s.missingRecord r).gsel = s.gsel ∧ (s.missingRecord r).groups = s.groups ∧
    (s.missingRecord r).panel = s.panel ∧ (s.missingRecord r).store = s.store ∧
    (s.missingRecord r).xfer = s.xfer ∧ (s.missingRecord r).tones = s.tones ∧
    (s.missingRecord r).voices = s.voices ∧ (s.missingRecord r).lamps = s.lamps ∧
    (s.missingRecord r).supply = s.supply ∧ (s.missingRecord r).holds = s.holds := by
  refine ⟨rfl, rfl, rfl, rfl, rfl, rfl, rfl, rfl, rfl, rfl, rfl, rfl, rfl, rfl, rfl, rfl, rfl, rfl, rfl⟩

@[simp] theorem State.clearMarks_keeps (s : State) (g : GroupId) :
    (s.clearMarks g).pending = s.pending ∧ (s.clearMarks g).pins = s.pins ∧
    (s.clearMarks g).resetLow = s.resetLow ∧ (s.clearMarks g).dataOut = s.dataOut ∧
    (s.clearMarks g).ctl = s.ctl ∧ (s.clearMarks g).time = s.time ∧ (s.clearMarks g).scan = s.scan ∧
    (s.clearMarks g).window = s.window ∧ (s.clearMarks g).gsel = s.gsel ∧ (s.clearMarks g).groups = s.groups ∧
    (s.clearMarks g).panel = s.panel ∧ (s.clearMarks g).store = s.store ∧ (s.clearMarks g).xfer = s.xfer ∧
    (s.clearMarks g).tones = s.tones ∧ (s.clearMarks g).voices = s.voices ∧ (s.clearMarks g).lamps = s.lamps ∧
    (s.clearMarks g).supply = s.supply ∧ (s.clearMarks g).evq = s.evq ∧ (s.clearMarks g).irq = s.irq ∧
    (s.clearMarks g).holds = s.holds := by
  refine ⟨rfl, rfl, rfl, rfl, rfl, rfl, rfl, rfl, rfl, rfl, rfl, rfl, rfl, rfl, rfl, rfl, rfl, rfl, rfl, rfl⟩

@[simp] theorem State.joinFirstOut_keeps (s : State) (p : PointId) (g : GroupId) (n : Half) (tie : Bool) :
    (s.joinFirstOut p g n tie).pending = s.pending ∧ (s.joinFirstOut p g n tie).pins = s.pins ∧
    (s.joinFirstOut p g n tie).resetLow = s.resetLow ∧ (s.joinFirstOut p g n tie).dataOut = s.dataOut ∧
    (s.joinFirstOut p g n tie).ctl = s.ctl ∧ (s.joinFirstOut p g n tie).time = s.time ∧
    (s.joinFirstOut p g n tie).scan = s.scan ∧ (s.joinFirstOut p g n tie).window = s.window ∧
    (s.joinFirstOut p g n tie).gsel = s.gsel ∧ (s.joinFirstOut p g n tie).groups = s.groups ∧
    (s.joinFirstOut p g n tie).panel = s.panel ∧ (s.joinFirstOut p g n tie).store = s.store ∧
    (s.joinFirstOut p g n tie).xfer = s.xfer ∧ (s.joinFirstOut p g n tie).tones = s.tones ∧
    (s.joinFirstOut p g n tie).voices = s.voices ∧ (s.joinFirstOut p g n tie).lamps = s.lamps ∧
    (s.joinFirstOut p g n tie).supply = s.supply ∧ (s.joinFirstOut p g n tie).holds = s.holds := by
  refine ⟨rfl, rfl, rfl, rfl, rfl, rfl, rfl, rfl, rfl, rfl, rfl, rfl, rfl, rfl, rfl, rfl, rfl, rfl⟩

@[simp] theorem State.rearmRecord_keeps (s : State) (g : GroupId) (trigger : Option PointId) (command : Bool) (count : Nat) :
    (s.rearmRecord g trigger command count).pending = s.pending ∧
    (s.rearmRecord g trigger command count).pins = s.pins ∧
    (s.rearmRecord g trigger command count).resetLow = s.resetLow ∧
    (s.rearmRecord g trigger command count).dataOut = s.dataOut ∧
    (s.rearmRecord g trigger command count).ctl = s.ctl ∧
    (s.rearmRecord g trigger command count).time = s.time ∧
    (s.rearmRecord g trigger command count).scan = s.scan ∧
    (s.rearmRecord g trigger command count).window = s.window ∧
    (s.rearmRecord g trigger command count).points = s.points ∧
    (s.rearmRecord g trigger command count).gsel = s.gsel ∧
    (s.rearmRecord g trigger command count).groups = s.groups ∧
    (s.rearmRecord g trigger command count).panel = s.panel ∧
    (s.rearmRecord g trigger command count).store = s.store ∧
    (s.rearmRecord g trigger command count).xfer = s.xfer ∧
    (s.rearmRecord g trigger command count).tones = s.tones ∧
    (s.rearmRecord g trigger command count).voices = s.voices ∧
    (s.rearmRecord g trigger command count).lamps = s.lamps ∧
    (s.rearmRecord g trigger command count).supply = s.supply ∧
    (s.rearmRecord g trigger command count).holds = s.holds := by
  refine ⟨rfl, rfl, rfl, rfl, rfl, rfl, rfl, rfl, rfl, rfl, rfl, rfl, rfl, rfl, rfl, rfl, rfl, rfl, rfl⟩

@[simp] theorem State.rearm_keeps (s : State) (g : GroupId) (trigger : Option PointId) (command : Bool) :
    (s.rearm g trigger command).pending = s.pending ∧ (s.rearm g trigger command).pins = s.pins ∧
    (s.rearm g trigger command).resetLow = s.resetLow ∧ (s.rearm g trigger command).dataOut = s.dataOut ∧
    (s.rearm g trigger command).ctl = s.ctl ∧ (s.rearm g trigger command).time = s.time ∧
    (s.rearm g trigger command).scan = s.scan ∧ (s.rearm g trigger command).window = s.window ∧
    (s.rearm g trigger command).gsel = s.gsel ∧ (s.rearm g trigger command).panel = s.panel ∧
    (s.rearm g trigger command).store = s.store ∧ (s.rearm g trigger command).xfer = s.xfer ∧
    (s.rearm g trigger command).tones = s.tones ∧ (s.rearm g trigger command).voices = s.voices ∧
    (s.rearm g trigger command).lamps = s.lamps ∧ (s.rearm g trigger command).supply = s.supply ∧
    (s.rearm g trigger command).holds = s.holds := by
  refine ⟨rfl, rfl, rfl, rfl, rfl, rfl, rfl, rfl, rfl, rfl, rfl, rfl, rfl, rfl, rfl, rfl, rfl⟩

@[simp] theorem State.seqRecord_keeps (s : State) (p : PointId) (k : Kind) (o : SeqOutcome) :
    (s.seqRecord p k o).pending = s.pending ∧ (s.seqRecord p k o).pins = s.pins ∧
    (s.seqRecord p k o).resetLow = s.resetLow ∧ (s.seqRecord p k o).dataOut = s.dataOut ∧
    (s.seqRecord p k o).ctl = s.ctl ∧ (s.seqRecord p k o).time = s.time ∧ (s.seqRecord p k o).scan = s.scan ∧
    (s.seqRecord p k o).window = s.window ∧ (s.seqRecord p k o).points = s.points ∧
    (s.seqRecord p k o).gsel = s.gsel ∧ (s.seqRecord p k o).groups = s.groups ∧
    (s.seqRecord p k o).panel = s.panel ∧ (s.seqRecord p k o).store = s.store ∧
    (s.seqRecord p k o).xfer = s.xfer ∧ (s.seqRecord p k o).tones = s.tones ∧
    (s.seqRecord p k o).voices = s.voices ∧ (s.seqRecord p k o).lamps = s.lamps ∧
    (s.seqRecord p k o).supply = s.supply ∧ (s.seqRecord p k o).holds = s.holds := by
  refine ⟨rfl, rfl, rfl, rfl, rfl, rfl, rfl, rfl, rfl, rfl, rfl, rfl, rfl, rfl, rfl, rfl, rfl, rfl, rfl⟩

@[simp] theorem State.actionRecord_keeps (s : State) (a : Action) (src : ActionSource) (c : Machine.Scope) (count : Nat) :
    (s.actionRecord a src c count).pending = s.pending ∧ (s.actionRecord a src c count).pins = s.pins ∧
    (s.actionRecord a src c count).resetLow = s.resetLow ∧ (s.actionRecord a src c count).dataOut = s.dataOut ∧
    (s.actionRecord a src c count).ctl = s.ctl ∧ (s.actionRecord a src c count).time = s.time ∧
    (s.actionRecord a src c count).scan = s.scan ∧ (s.actionRecord a src c count).window = s.window ∧
    (s.actionRecord a src c count).points = s.points ∧ (s.actionRecord a src c count).gsel = s.gsel ∧
    (s.actionRecord a src c count).groups = s.groups ∧ (s.actionRecord a src c count).panel = s.panel ∧
    (s.actionRecord a src c count).store = s.store ∧ (s.actionRecord a src c count).xfer = s.xfer ∧
    (s.actionRecord a src c count).tones = s.tones ∧ (s.actionRecord a src c count).voices = s.voices ∧
    (s.actionRecord a src c count).lamps = s.lamps ∧ (s.actionRecord a src c count).supply = s.supply ∧
    (s.actionRecord a src c count).holds = s.holds := by
  refine ⟨rfl, rfl, rfl, rfl, rfl, rfl, rfl, rfl, rfl, rfl, rfl, rfl, rfl, rfl, rfl, rfl, rfl, rfl, rfl⟩

@[simp] theorem State.takeScan_keeps (s : State) :
    (s.takeScan).pending = s.pending ∧ (s.takeScan).pins = s.pins ∧ (s.takeScan).resetLow = s.resetLow ∧
    (s.takeScan).dataOut = s.dataOut ∧ (s.takeScan).ctl = s.ctl ∧ (s.takeScan).time = s.time ∧
    (s.takeScan).window = s.window ∧ (s.takeScan).gsel = s.gsel ∧ (s.takeScan).groups = s.groups ∧
    (s.takeScan).panel = s.panel ∧ (s.takeScan).store = s.store ∧ (s.takeScan).xfer = s.xfer ∧
    (s.takeScan).tones = s.tones ∧ (s.takeScan).voices = s.voices ∧ (s.takeScan).lamps = s.lamps ∧
    (s.takeScan).supply = s.supply ∧ (s.takeScan).evq = s.evq ∧ (s.takeScan).irq = s.irq ∧
    (s.takeScan).holds = s.holds := by
  refine ⟨rfl, rfl, rfl, rfl, rfl, rfl, rfl, rfl, rfl, rfl, rfl, rfl, rfl, rfl, rfl, rfl, rfl, rfl, rfl⟩

@[simp] theorem State.unshelve_keeps (s : State) (p : PointId) :
    (s.unshelve p).pending = s.pending ∧ (s.unshelve p).pins = s.pins ∧ (s.unshelve p).resetLow = s.resetLow ∧
    (s.unshelve p).dataOut = s.dataOut ∧ (s.unshelve p).ctl = s.ctl ∧ (s.unshelve p).time = s.time ∧
    (s.unshelve p).scan = s.scan ∧ (s.unshelve p).window = s.window ∧ (s.unshelve p).gsel = s.gsel ∧
    (s.unshelve p).groups = s.groups ∧ (s.unshelve p).panel = s.panel ∧ (s.unshelve p).store = s.store ∧
    (s.unshelve p).xfer = s.xfer ∧ (s.unshelve p).tones = s.tones ∧ (s.unshelve p).voices = s.voices ∧
    (s.unshelve p).lamps = s.lamps ∧ (s.unshelve p).supply = s.supply ∧ (s.unshelve p).evq = s.evq ∧
    (s.unshelve p).irq = s.irq ∧ (s.unshelve p).holds = s.holds := by
  refine ⟨rfl, rfl, rfl, rfl, rfl, rfl, rfl, rfl, rfl, rfl, rfl, rfl, rfl, rfl, rfl, rfl, rfl, rfl, rfl, rfl⟩

@[simp] theorem State.unshelveRecord_keeps (s : State) (p : PointId) (expiry : Bool) :
    (s.unshelveRecord p expiry).pending = s.pending ∧ (s.unshelveRecord p expiry).pins = s.pins ∧
    (s.unshelveRecord p expiry).resetLow = s.resetLow ∧ (s.unshelveRecord p expiry).dataOut = s.dataOut ∧
    (s.unshelveRecord p expiry).ctl = s.ctl ∧ (s.unshelveRecord p expiry).time = s.time ∧
    (s.unshelveRecord p expiry).scan = s.scan ∧ (s.unshelveRecord p expiry).window = s.window ∧
    (s.unshelveRecord p expiry).points = s.points ∧ (s.unshelveRecord p expiry).gsel = s.gsel ∧
    (s.unshelveRecord p expiry).groups = s.groups ∧ (s.unshelveRecord p expiry).panel = s.panel ∧
    (s.unshelveRecord p expiry).store = s.store ∧ (s.unshelveRecord p expiry).xfer = s.xfer ∧
    (s.unshelveRecord p expiry).tones = s.tones ∧ (s.unshelveRecord p expiry).voices = s.voices ∧
    (s.unshelveRecord p expiry).lamps = s.lamps ∧ (s.unshelveRecord p expiry).supply = s.supply ∧
    (s.unshelveRecord p expiry).holds = s.holds := by
  refine ⟨rfl, rfl, rfl, rfl, rfl, rfl, rfl, rfl, rfl, rfl, rfl, rfl, rfl, rfl, rfl, rfl, rfl, rfl, rfl⟩

@[simp] theorem State.shelveRecord_keeps (s : State) (p : PointId) (restart : Bool) (left : SeqState) :
    (s.shelveRecord p restart left).pending = s.pending ∧ (s.shelveRecord p restart left).pins = s.pins ∧
    (s.shelveRecord p restart left).resetLow = s.resetLow ∧
    (s.shelveRecord p restart left).dataOut = s.dataOut ∧ (s.shelveRecord p restart left).ctl = s.ctl ∧
    (s.shelveRecord p restart left).time = s.time ∧ (s.shelveRecord p restart left).scan = s.scan ∧
    (s.shelveRecord p restart left).window = s.window ∧ (s.shelveRecord p restart left).points = s.points ∧
    (s.shelveRecord p restart left).gsel = s.gsel ∧ (s.shelveRecord p restart left).groups = s.groups ∧
    (s.shelveRecord p restart left).panel = s.panel ∧ (s.shelveRecord p restart left).store = s.store ∧
    (s.shelveRecord p restart left).xfer = s.xfer ∧ (s.shelveRecord p restart left).tones = s.tones ∧
    (s.shelveRecord p restart left).voices = s.voices ∧ (s.shelveRecord p restart left).lamps = s.lamps ∧
    (s.shelveRecord p restart left).supply = s.supply ∧ (s.shelveRecord p restart left).holds = s.holds := by
  refine ⟨rfl, rfl, rfl, rfl, rfl, rfl, rfl, rfl, rfl, rfl, rfl, rfl, rfl, rfl, rfl, rfl, rfl, rfl, rfl⟩

@[simp] theorem State.clearRun_keeps (s : State) :
    (s.clearRun).pending = s.pending ∧ (s.clearRun).pins = s.pins ∧ (s.clearRun).resetLow = s.resetLow ∧
    (s.clearRun).dataOut = s.dataOut ∧ (s.clearRun).time = s.time ∧ (s.clearRun).window = s.window ∧
    (s.clearRun).gsel = s.gsel ∧ (s.clearRun).panel = s.panel ∧ (s.clearRun).store = s.store ∧
    (s.clearRun).xfer = s.xfer ∧ (s.clearRun).lamps = s.lamps ∧ (s.clearRun).supply = s.supply ∧
    (s.clearRun).evq = s.evq ∧ (s.clearRun).irq = s.irq ∧ (s.clearRun).holds = s.holds := by
  refine ⟨rfl, rfl, rfl, rfl, rfl, rfl, rfl, rfl, rfl, rfl, rfl, rfl, rfl, rfl, rfl⟩

@[simp] theorem State.enterSetup_keeps (s : State) :
    (s.enterSetup).pending = s.pending ∧ (s.enterSetup).pins = s.pins ∧ (s.enterSetup).resetLow = s.resetLow ∧
    (s.enterSetup).dataOut = s.dataOut ∧ (s.enterSetup).time = s.time ∧ (s.enterSetup).scan = s.scan ∧
    (s.enterSetup).points = s.points ∧ (s.enterSetup).gsel = s.gsel ∧ (s.enterSetup).groups = s.groups ∧
    (s.enterSetup).panel = s.panel ∧ (s.enterSetup).store = s.store ∧ (s.enterSetup).xfer = s.xfer ∧
    (s.enterSetup).tones = s.tones ∧ (s.enterSetup).voices = s.voices ∧ (s.enterSetup).lamps = s.lamps ∧
    (s.enterSetup).supply = s.supply ∧ (s.enterSetup).evq = s.evq ∧ (s.enterSetup).irq = s.irq ∧
    (s.enterSetup).holds = s.holds := by
  refine ⟨rfl, rfl, rfl, rfl, rfl, rfl, rfl, rfl, rfl, rfl, rfl, rfl, rfl, rfl, rfl, rfl, rfl, rfl, rfl⟩

@[simp] theorem State.releaseLatch_keeps (s : State) :
    (s.releaseLatch).pending = s.pending ∧ (s.releaseLatch).pins = s.pins ∧
    (s.releaseLatch).resetLow = s.resetLow ∧ (s.releaseLatch).dataOut = s.dataOut ∧
    (s.releaseLatch).ctl = s.ctl ∧ (s.releaseLatch).time = s.time ∧ (s.releaseLatch).scan = s.scan ∧
    (s.releaseLatch).window = s.window ∧ (s.releaseLatch).points = s.points ∧ (s.releaseLatch).gsel = s.gsel ∧
    (s.releaseLatch).groups = s.groups ∧ (s.releaseLatch).panel = s.panel ∧ (s.releaseLatch).store = s.store ∧
    (s.releaseLatch).xfer = s.xfer ∧ (s.releaseLatch).tones = s.tones ∧ (s.releaseLatch).voices = s.voices ∧
    (s.releaseLatch).lamps = s.lamps ∧ (s.releaseLatch).supply = s.supply ∧ (s.releaseLatch).irq = s.irq ∧
    (s.releaseLatch).holds = s.holds := by
  refine ⟨rfl, rfl, rfl, rfl, rfl, rfl, rfl, rfl, rfl, rfl, rfl, rfl, rfl, rfl, rfl, rfl, rfl, rfl, rfl, rfl⟩

@[simp] theorem State.supplyOk_keeps (s : State) :
    (s.supplyOk).pending = s.pending ∧ (s.supplyOk).pins = s.pins ∧ (s.supplyOk).resetLow = s.resetLow ∧
    (s.supplyOk).dataOut = s.dataOut ∧ (s.supplyOk).ctl = s.ctl ∧ (s.supplyOk).time = s.time ∧
    (s.supplyOk).scan = s.scan ∧ (s.supplyOk).window = s.window ∧ (s.supplyOk).points = s.points ∧
    (s.supplyOk).gsel = s.gsel ∧ (s.supplyOk).groups = s.groups ∧ (s.supplyOk).panel = s.panel ∧
    (s.supplyOk).store = s.store ∧ (s.supplyOk).xfer = s.xfer ∧ (s.supplyOk).tones = s.tones ∧
    (s.supplyOk).voices = s.voices ∧ (s.supplyOk).lamps = s.lamps ∧ (s.supplyOk).evq = s.evq ∧
    (s.supplyOk).irq = s.irq ∧ (s.supplyOk).holds = s.holds := by
  refine ⟨rfl, rfl, rfl, rfl, rfl, rfl, rfl, rfl, rfl, rfl, rfl, rfl, rfl, rfl, rfl, rfl, rfl, rfl, rfl, rfl⟩

@[simp] theorem State.clearFlags_keeps (s : State) :
    (s.clearFlags).pending = s.pending ∧ (s.clearFlags).pins = s.pins ∧ (s.clearFlags).resetLow = s.resetLow ∧
    (s.clearFlags).dataOut = s.dataOut ∧ (s.clearFlags).ctl = s.ctl ∧ (s.clearFlags).time = s.time ∧
    (s.clearFlags).scan = s.scan ∧ (s.clearFlags).window = s.window ∧ (s.clearFlags).points = s.points ∧
    (s.clearFlags).gsel = s.gsel ∧ (s.clearFlags).groups = s.groups ∧ (s.clearFlags).panel = s.panel ∧
    (s.clearFlags).store = s.store ∧ (s.clearFlags).xfer = s.xfer ∧ (s.clearFlags).tones = s.tones ∧
    (s.clearFlags).voices = s.voices ∧ (s.clearFlags).lamps = s.lamps ∧ (s.clearFlags).supply = s.supply ∧
    (s.clearFlags).evq = s.evq ∧ (s.clearFlags).holds = s.holds := by
  refine ⟨rfl, rfl, rfl, rfl, rfl, rfl, rfl, rfl, rfl, rfl, rfl, rfl, rfl, rfl, rfl, rfl, rfl, rfl, rfl, rfl⟩

@[simp] theorem State.enterHold_keeps (s : State) :
    (s.enterHold).pending = s.pending ∧ (s.enterHold).pins = s.pins ∧ (s.enterHold).resetLow = s.resetLow ∧
    (s.enterHold).dataOut = s.dataOut ∧ (s.enterHold).time = s.time ∧ (s.enterHold).window = s.window ∧
    (s.enterHold).gsel = s.gsel ∧ (s.enterHold).groups = s.groups ∧ (s.enterHold).panel = s.panel ∧
    (s.enterHold).store = s.store ∧ (s.enterHold).xfer = s.xfer ∧ (s.enterHold).tones = s.tones ∧
    (s.enterHold).voices = s.voices ∧ (s.enterHold).lamps = s.lamps ∧ (s.enterHold).supply = s.supply ∧
    (s.enterHold).evq = s.evq ∧ (s.enterHold).irq = s.irq ∧ (s.enterHold).holds = s.holds := by
  refine ⟨rfl, rfl, rfl, rfl, rfl, rfl, rfl, rfl, rfl, rfl, rfl, rfl, rfl, rfl, rfl, rfl, rfl, rfl⟩

@[simp] theorem State.leaveHold_keeps (s : State) :
    (s.leaveHold).pending = s.pending ∧ (s.leaveHold).pins = s.pins ∧ (s.leaveHold).resetLow = s.resetLow ∧
    (s.leaveHold).dataOut = s.dataOut ∧ (s.leaveHold).time = s.time ∧ (s.leaveHold).window = s.window ∧
    (s.leaveHold).gsel = s.gsel ∧ (s.leaveHold).groups = s.groups ∧ (s.leaveHold).panel = s.panel ∧
    (s.leaveHold).store = s.store ∧ (s.leaveHold).xfer = s.xfer ∧ (s.leaveHold).tones = s.tones ∧
    (s.leaveHold).voices = s.voices ∧ (s.leaveHold).lamps = s.lamps ∧ (s.leaveHold).supply = s.supply ∧
    (s.leaveHold).evq = s.evq ∧ (s.leaveHold).irq = s.irq ∧ (s.leaveHold).holds = s.holds := by
  refine ⟨rfl, rfl, rfl, rfl, rfl, rfl, rfl, rfl, rfl, rfl, rfl, rfl, rfl, rfl, rfl, rfl, rfl, rfl⟩

@[simp] theorem State.setRole_keeps (s : State) (r : Role) :
    (s.setRole r).pending = s.pending ∧ (s.setRole r).pins = s.pins ∧ (s.setRole r).resetLow = s.resetLow ∧
    (s.setRole r).dataOut = s.dataOut ∧ (s.setRole r).ctl = s.ctl ∧ (s.setRole r).scan = s.scan ∧
    (s.setRole r).window = s.window ∧ (s.setRole r).points = s.points ∧ (s.setRole r).gsel = s.gsel ∧
    (s.setRole r).groups = s.groups ∧ (s.setRole r).panel = s.panel ∧ (s.setRole r).store = s.store ∧
    (s.setRole r).xfer = s.xfer ∧ (s.setRole r).tones = s.tones ∧ (s.setRole r).voices = s.voices ∧
    (s.setRole r).lamps = s.lamps ∧ (s.setRole r).supply = s.supply ∧ (s.setRole r).evq = s.evq ∧
    (s.setRole r).irq = s.irq ∧ (s.setRole r).holds = s.holds := by
  refine ⟨rfl, rfl, rfl, rfl, rfl, rfl, rfl, rfl, rfl, rfl, rfl, rfl, rfl, rfl, rfl, rfl, rfl, rfl, rfl, rfl⟩

@[simp] theorem State.clearLowRun_keeps (s : State) :
    (s.clearLowRun).pending = s.pending ∧ (s.clearLowRun).pins = s.pins ∧
    (s.clearLowRun).resetLow = s.resetLow ∧ (s.clearLowRun).dataOut = s.dataOut ∧ (s.clearLowRun).ctl = s.ctl ∧
    (s.clearLowRun).scan = s.scan ∧ (s.clearLowRun).window = s.window ∧ (s.clearLowRun).points = s.points ∧
    (s.clearLowRun).gsel = s.gsel ∧ (s.clearLowRun).groups = s.groups ∧ (s.clearLowRun).panel = s.panel ∧
    (s.clearLowRun).store = s.store ∧ (s.clearLowRun).xfer = s.xfer ∧ (s.clearLowRun).tones = s.tones ∧
    (s.clearLowRun).voices = s.voices ∧ (s.clearLowRun).lamps = s.lamps ∧ (s.clearLowRun).supply = s.supply ∧
    (s.clearLowRun).evq = s.evq ∧ (s.clearLowRun).irq = s.irq ∧ (s.clearLowRun).holds = s.holds := by
  refine ⟨rfl, rfl, rfl, rfl, rfl, rfl, rfl, rfl, rfl, rfl, rfl, rfl, rfl, rfl, rfl, rfl, rfl, rfl, rfl, rfl⟩

@[simp] theorem State.syncRecord_keeps (s : State) (why : SyncReason) :
    (s.syncRecord why).pending = s.pending ∧ (s.syncRecord why).pins = s.pins ∧
    (s.syncRecord why).resetLow = s.resetLow ∧ (s.syncRecord why).dataOut = s.dataOut ∧
    (s.syncRecord why).ctl = s.ctl ∧ (s.syncRecord why).time = s.time ∧ (s.syncRecord why).scan = s.scan ∧
    (s.syncRecord why).window = s.window ∧ (s.syncRecord why).points = s.points ∧
    (s.syncRecord why).gsel = s.gsel ∧ (s.syncRecord why).groups = s.groups ∧
    (s.syncRecord why).panel = s.panel ∧ (s.syncRecord why).store = s.store ∧
    (s.syncRecord why).xfer = s.xfer ∧ (s.syncRecord why).tones = s.tones ∧
    (s.syncRecord why).voices = s.voices ∧ (s.syncRecord why).lamps = s.lamps ∧
    (s.syncRecord why).supply = s.supply ∧ (s.syncRecord why).holds = s.holds := by
  refine ⟨rfl, rfl, rfl, rfl, rfl, rfl, rfl, rfl, rfl, rfl, rfl, rfl, rfl, rfl, rfl, rfl, rfl, rfl, rfl⟩

@[simp] theorem State.spendHold_keeps (s : State) (b : Partner) :
    (s.spendHold b).pending = s.pending ∧ (s.spendHold b).pins = s.pins ∧
    (s.spendHold b).resetLow = s.resetLow ∧ (s.spendHold b).dataOut = s.dataOut ∧ (s.spendHold b).ctl = s.ctl ∧
    (s.spendHold b).time = s.time ∧ (s.spendHold b).scan = s.scan ∧ (s.spendHold b).window = s.window ∧
    (s.spendHold b).points = s.points ∧ (s.spendHold b).gsel = s.gsel ∧ (s.spendHold b).groups = s.groups ∧
    (s.spendHold b).panel = s.panel ∧ (s.spendHold b).store = s.store ∧ (s.spendHold b).xfer = s.xfer ∧
    (s.spendHold b).tones = s.tones ∧ (s.spendHold b).voices = s.voices ∧ (s.spendHold b).lamps = s.lamps ∧
    (s.spendHold b).supply = s.supply ∧ (s.spendHold b).evq = s.evq ∧ (s.spendHold b).irq = s.irq := by
  refine ⟨rfl, rfl, rfl, rfl, rfl, rfl, rfl, rfl, rfl, rfl, rfl, rfl, rfl, rfl, rfl, rfl, rfl, rfl, rfl, rfl⟩

@[simp] theorem State.advance_keeps (s : State) (p : Pins) :
    (s.advance p).pending = s.pending ∧ (s.advance p).resetLow = s.resetLow ∧
    (s.advance p).dataOut = s.dataOut ∧ (s.advance p).ctl = s.ctl ∧ (s.advance p).window = s.window ∧
    (s.advance p).gsel = s.gsel ∧ (s.advance p).groups = s.groups ∧ (s.advance p).xfer = s.xfer ∧
    (s.advance p).tones = s.tones ∧ (s.advance p).evq = s.evq ∧ (s.advance p).irq = s.irq ∧
    (s.advance p).holds = s.holds := by
  refine ⟨rfl, rfl, rfl, rfl, rfl, rfl, rfl, rfl, rfl, rfl, rfl, rfl⟩

/-! ### A point, a group, a voice, a hold byte after an update -/

theorem State.point_modSeq (s : State) (p q : PointId) (f : Seq → Seq) :
    (s.modSeq p f).point q = if q = p then { s.point q with seq := f (s.point q).seq } else s.point q := by
  by_cases h : q = p
  · subst h; simp [State.modSeq, State.point]
  · have : (p : Nat) ≠ q := fun e => h (Fin.ext e.symm)
    simp [State.modSeq, State.point, h, this]

theorem State.point_modCfg (s : State) (p q : PointId) (f : PointConfig → PointConfig) :
    (s.modCfg p f).point q = if q = p then { s.point q with cfg := f (s.point q).cfg } else s.point q := by
  by_cases h : q = p
  · subst h; simp [State.modCfg, State.point]
  · have : (p : Nat) ≠ q := fun e => h (Fin.ext e.symm)
    simp [State.modCfg, State.point, h, this]

theorem State.group_setGroup (s : State) (g k : GroupId) (r : Group) :
    (s.setGroup g r).group k = if k = g then r else s.group k := by
  by_cases h : k = g
  · subst h; simp [State.setGroup, State.group]
  · have : (g : Nat) ≠ k := fun e => h (Fin.ext e.symm)
    simp [State.setGroup, State.group, h, this]

theorem State.voice_setVoice (s : State) (v w : VoiceId) (x : Voice) :
    (s.setVoice v x).voices[w] = if w = v then x else s.voices[w] := by
  by_cases h : w = v
  · subst h; simp [State.setVoice]
  · have : (v : Nat) ≠ w := fun e => h (Fin.ext e.symm)
    simp [State.setVoice, h, this]

@[simp] theorem State.seq_modSeq_self (s : State) (p : PointId) (f : Seq → Seq) :
    ((s.modSeq p f).point p).seq = f (s.point p).seq := by
  simp [State.point_modSeq]

@[simp] theorem State.cfg_modSeq (s : State) (p q : PointId) (f : Seq → Seq) :
    ((s.modSeq p f).point q).cfg = (s.point q).cfg := by
  rw [State.point_modSeq]; split <;> rfl

@[simp] theorem State.qual_modSeq (s : State) (p q : PointId) (f : Seq → Seq) :
    ((s.modSeq p f).point q).qual = (s.point q).qual := by
  rw [State.point_modSeq]; split <;> rfl

/-- A point is read from `points` alone. -/
theorem State.point_congr {s t : State} (h : t.points = s.points) (p : PointId) : t.point p = s.point p := by
  simp [State.point, h]

theorem State.group_congr {s t : State} (h : t.groups = s.groups) (g : GroupId) : t.group g = s.group g := by
  simp [State.group, h]

@[simp] theorem State.point_record (s : State) (k : Kind) (o : Option (Fin 32)) (a b : Nat) (p : PointId) :
    (s.record k o a b).point p = s.point p := rfl

@[simp] theorem State.point_setCause (s : State) (c : Cause) (p : PointId) : (s.setCause c).point p = s.point p := rfl

@[simp] theorem State.group_record (s : State) (k : Kind) (o : Option (Fin 32)) (a b : Nat) (g : GroupId) :
    (s.record k o a b).group g = s.group g := rfl

@[simp] theorem State.group_setCause (s : State) (c : Cause) (g : GroupId) : (s.setCause c).group g = s.group g := rfl

@[simp] theorem State.group_modSeq (s : State) (p : PointId) (f : Seq → Seq) (g : GroupId) :
    (s.modSeq p f).group g = s.group g := rfl

end Sys2Proof.Machine
end

