-- ==== Sys2Proof/Laws/Frames.lean ====
section
/-! SUPPORT. Frames: what an allocation, a sequence and an operator action change at most. The two frames of
Safety.lean are given field by field and composed, and every shared operation of the annunciation keeps them. -/

namespace Sys2Proof.Machine

/-! ### The frame of the annunciation, field by field -/

theorem annunciationOnly_iff (s t : State) :
    AnnunciationOnly s t ↔
      (t.pending = s.pending ∧ t.pins = s.pins ∧ t.resetLow = s.resetLow ∧ t.dataOut = s.dataOut ∧
        t.ctl = s.ctl ∧ t.time = s.time ∧ t.scan = s.scan ∧ t.window = s.window ∧ t.gsel = s.gsel ∧
        t.panel = s.panel ∧ t.store = s.store ∧ t.xfer = s.xfer ∧ t.lamps = s.lamps ∧ t.supply = s.supply ∧
        t.holds = s.holds) ∧
      t.tones = { s.tones with requests := t.tones.requests, arrival := t.tones.arrival } ∧
      t.evq = { s.evq with records := t.evq.records, seq := t.evq.seq } ∧
      t.irq = { s.irq with flags := t.irq.flags } ∧
      ∀ p : PointId, (t.point p).cfg = (s.point p).cfg ∧ (t.point p).qual = (s.point p).qual := by
  cases s; cases t
  simp only [AnnunciationOnly, State.mk.injEq]
  constructor
  · rintro ⟨⟨h1, h2, h3, h4, h5, h6, h7, h8, -, h9, -, h10, h11, h12, ht, -, h13, h14, he, hi, h15⟩, hp⟩
    exact ⟨⟨h1, h2, h3, h4, h5, h6, h7, h8, h9, h10, h11, h12, h13, h14, h15⟩, ht, he, hi, hp⟩
  · rintro ⟨⟨h1, h2, h3, h4, h5, h6, h7, h8, h9, h10, h11, h12, h13, h14, h15⟩, ht, he, hi, hp⟩
    exact ⟨⟨h1, h2, h3, h4, h5, h6, h7, h8, trivial, h9, trivial, h10, h11, h12, ht, trivial, h13, h14, he, hi, h15⟩, hp⟩

theorem AnnunciationOnly.refl (s : State) : AnnunciationOnly s s := by
  simp [AnnunciationOnly]

theorem AnnunciationOnly.trans {s t u : State} (h : AnnunciationOnly s t) (k : AnnunciationOnly t u) :
    AnnunciationOnly s u := by
  rw [annunciationOnly_iff] at h k ⊢
  obtain ⟨⟨h1, h2, h3, h4, h5, h6, h7, h8, h9, h10, h11, h12, h13, h14, h15⟩, ht, he, hi, hp⟩ := h
  obtain ⟨⟨k1, k2, k3, k4, k5, k6, k7, k8, k9, k10, k11, k12, k13, k14, k15⟩, kt, ke, ki, kp⟩ := k
  refine ⟨⟨k1.trans h1, k2.trans h2, k3.trans h3, k4.trans h4, k5.trans h5, k6.trans h6, k7.trans h7, k8.trans h8,
    k9.trans h9, k10.trans h10, k11.trans h11, k12.trans h12, k13.trans h13, k14.trans h14, k15.trans h15⟩, ?_, ?_, ?_,
    fun p => ⟨(kp p).1.trans (hp p).1, (kp p).2.trans (hp p).2⟩⟩
  · rw [kt, ht]
  · rw [ke, he]
  · rw [ki, hi]

/-- A chain of steps, each within the frame, is within the frame. -/
theorem AnnunciationOnly.foldl {α : Type} (f : State → α → State) (h : ∀ s a, AnnunciationOnly s (f s a))
    (l : List α) : ∀ s, AnnunciationOnly s (l.foldl f s) := by
  induction l with
  | nil => exact AnnunciationOnly.refl
  | cons a l ih => exact fun s => (h s a).trans (ih (f s a))

/-! ### Records and causes -/

theorem EventQueue.offer_keeps (q : EventQueue) (k : Kind) (t : Clock) (p : Option (Fin 32)) (a b : Byte) :
    (q.offer k t p a b).latch = q.latch ∧ (q.offer k t p a b).mask = q.mask ∧
    (q.offer k t p a b).threshold = q.threshold := by
  unfold EventQueue.offer EventQueue.insert
  split <;> simp

theorem Irq.setAll_keeps (u : Irq) (cs : List Cause) : u.setAll cs = { u with flags := (u.setAll cs).flags } := by
  unfold Irq.setAll
  induction cs generalizing u with
  | nil => rfl
  | cons c cs ih => rw [List.foldl_cons, ih]; rfl

theorem State.record_frame (s : State) (k : Kind) (p : Option (Fin 32)) (a b : Nat) :
    AnnunciationOnly s (s.record k p a b) := by
  obtain ⟨h1, h2, h3⟩ := EventQueue.offer_keeps s.evq k s.time.clock p (byte a) (byte b)
  rw [annunciationOnly_iff]
  refine ⟨by simp, by simp, ?_, ?_, by simp⟩
  · simp only [State.record]
    rw [← h1, ← h2, ← h3]
  · exact Irq.setAll_keeps _ _

theorem State.setCause_frame (s : State) (c : Cause) : AnnunciationOnly s (s.setCause c) := by
  rw [annunciationOnly_iff]
  simp [State.setCause, Irq.set, State.point]

/-! ### Points and groups -/

theorem State.modSeq_frame (s : State) (p : PointId) (f : Seq → Seq) : AnnunciationOnly s (s.modSeq p f) := by
  rw [annunciationOnly_iff]
  simp

theorem State.setGroup_frame (s : State) (g : GroupId) (r : Group) : AnnunciationOnly s (s.setGroup g r) := by
  rw [annunciationOnly_iff]
  simp [State.setGroup, State.point]

theorem State.clearMarks_frame (s : State) (g : GroupId) : AnnunciationOnly s (s.clearMarks g) := by
  rw [annunciationOnly_iff]
  simp only [State.clearMarks, State.point, true_and]
  intro p
  simp only [Fin.getElem_fin, Vector.getElem_map]
  split <;> simp

theorem State.joinFirstOut_frame (s : State) (p : PointId) (g : GroupId) (n : Half) (tie : Bool) :
    AnnunciationOnly s (s.joinFirstOut p g n tie) :=
  (s.modSeq_frame p _).trans (State.record_frame _ _ _ _ _)

theorem State.assignMark_frame (s : State) (p : PointId) (n : Half) : AnnunciationOnly s (s.assignMark p n) := by
  unfold State.assignMark
  split
  · exact .refl s
  · dsimp only
    split
    · exact (s.setGroup_frame _ _).trans (State.joinFirstOut_frame _ _ _ _ _)
    · split
      · split
        · exact .refl s
        · exact s.joinFirstOut_frame _ _ _ _
      · split
        · exact s.modSeq_frame _ _
        · exact .refl s

/-- When an alarm makes a GROUP_CAPTURE record (R53, R54, R181). -/
theorem State.logsCapture_iff (s : State) (p : PointId) (n : Half) :
    s.logsCapture p n = true ↔ s.evq.masked .groupCapture = false ∧
      ∃ g ∈ (s.point p).cfg.group,
        (s.group g).captured = false ∨ (s.group g).captureScan = n ∧ (s.point p).seq.mark ≠ .first := by
  unfold State.logsCapture
  cases (s.point p).cfg.group <;> simp

/-- The GROUP_CAPTURE record is the one record the assignment of a mark makes (R53, R54). -/
theorem State.assignMark_evq (s : State) (p : PointId) (n : Half) :
    (s.logsCapture p n = false → (s.assignMark p n).evq = s.evq) ∧
    (s.logsCapture p n = true → ∃ source,
      (s.assignMark p n).evq =
        s.evq.offer .groupCapture s.time.clock (some p) source (byte (n.toNat % 256))) := by
  unfold State.logsCapture State.assignMark
  cases hg : (s.point p).cfg.group with
  | none => simp
  | some g =>
    have masked : s.evq.masked .groupCapture = true →
        ∀ t a b, s.evq.offer .groupCapture t (some p) a b = s.evq := fun h t a b => by simp [EventQueue.offer, h]
    cases hm : s.evq.masked .groupCapture <;> dsimp only <;> split <;> rename_i h1 <;> (try split) <;>
      (try split) <;> simp_all [State.joinFirstOut, State.record, State.setGroup, State.modSeq]
    all_goals exact ⟨_, rfl⟩

theorem State.rearm_frame (s : State) (g : GroupId) (p : Option PointId) (command : Bool) :
    AnnunciationOnly s (s.rearm g p command) :=
  ((s.clearMarks_frame g).trans (State.setGroup_frame _ _ _)).trans (State.record_frame _ _ _ _ _)

theorem State.rearmCheck_frame (s : State) (p : PointId) : AnnunciationOnly s (s.rearmCheck p) := by
  unfold State.rearmCheck
  split
  · exact .refl s
  · split
    · exact s.rearm_frame _ _ _
    · exact .refl s

/-! ### The allocation -/

theorem markToneDone_keeps (ps : Vector Point 32) (r : Request) (p : PointId) :
    (markToneDone ps r)[p] =
      { ps[p] with seq := { ps[p].seq with toneDone := (markToneDone ps r)[p].seq.toneDone } } := by
  have key (q : PointId) :
      (ps.set q { ps[q] with seq := { ps[q].seq with toneDone := true } })[p] =
        { ps[p] with seq := { ps[p].seq with
            toneDone := (ps.set q { ps[q] with seq := { ps[q].seq with toneDone := true } })[p].seq.toneDone } } := by
    by_cases h : p = q
    · subst h; simp
    · have : (q : Nat) ≠ p := fun e => h (Fin.ext e.symm)
      simp [this]
  unfold markToneDone
  split
  · exact key _
  · exact key _
  · rfl

theorem foldl_markToneDone_keeps (rs : List Request) (ps : Vector Point 32) (p : PointId) :
    (rs.foldl markToneDone ps)[p] =
      { ps[p] with seq := { ps[p].seq with toneDone := (rs.foldl markToneDone ps)[p].seq.toneDone } } := by
  induction rs generalizing ps with
  | nil => rfl
  | cons r rs ih => rw [List.foldl_cons, ih, markToneDone_keeps]

theorem State.removeSound_frame (s : State) (x : Sound) : AnnunciationOnly s (s.removeSound x) := by
  rw [annunciationOnly_iff]
  refine ⟨by simp, rfl, rfl, rfl, fun p => ?_⟩
  have := foldl_markToneDone_keeps (s.tones.requests.filter fun r => r.sound = x) s.points p
  simp only [State.point, State.removeSound]
  rw [this]
  exact ⟨rfl, rfl⟩

theorem State.soundMissing_frame (s : State) (x : Sound) : AnnunciationOnly s (s.soundMissing x) :=
  ((s.removeSound_frame x).trans (AnnunciationOnly.foldl _ (fun t _ => t.record_frame _ _ _ _) _ _)).trans
    (State.setCause_frame _ _)

theorem State.withVoices_frame (s : State) (vs : Vector Voice 4) : AnnunciationOnly s { s with voices := vs } := by
  rw [annunciationOnly_iff]
  simp [State.point]

theorem State.startSound_frame (slots : List (Option Sound)) (s : State) (x : Sound) :
    AnnunciationOnly s (s.startSound slots x) := by
  unfold State.startSound
  split
  · exact s.soundMissing_frame x
  · split
    · exact .refl s
    · exact s.withVoices_frame _

theorem State.carryOut_frame (s : State) (p : Plan) : AnnunciationOnly s (s.carryOut p) :=
  (s.withVoices_frame _).trans (AnnunciationOnly.foldl _ (State.startSound_frame p.slots) _ _)

theorem State.allocateFuel_frame (n : Nat) : ∀ s : State, AnnunciationOnly s (s.allocateFuel n) := by
  induction n with
  | zero => exact AnnunciationOnly.refl
  | succ n ih =>
    intro s
    unfold State.allocateFuel
    dsimp only
    split
    · exact (s.carryOut_frame _).trans (ih _)
    · exact s.carryOut_frame _

theorem State.allocate_frame (s : State) : AnnunciationOnly s s.allocate := s.allocateFuel_frame _

theorem State.allocateIfLimitChanged_frame (s : State) (n : Nat) :
    AnnunciationOnly s (s.allocateIfLimitChanged n) := by
  unfold State.allocateIfLimitChanged
  split
  · exact .refl s
  · exact s.allocate_frame

theorem State.withRequests_frame (s : State) (rs : List Request) (n : Half) :
    AnnunciationOnly s { s with tones := { s.tones with requests := rs, arrival := n } } := by
  rw [annunciationOnly_iff]
  simp [State.point]

theorem State.enlist_frame (s : State) (src : Source) (kind : RequestKind) (pattern : PatternId) (rule : PassRule)
    (priority : Option (Fin 4)) : AnnunciationOnly s (s.enlist src kind pattern rule priority) := by
  rw [annunciationOnly_iff]
  simp [State.enlist, State.point]

theorem State.post_frame (s : State) (src : Source) (kind : RequestKind) (pattern : PatternId) (rule : PassRule)
    (priority : Option (Fin 4)) : AnnunciationOnly s (s.post src kind pattern rule priority) :=
  (s.enlist_frame _ _ _ _ _).trans (State.allocate_frame _)

theorem State.withdraw_frame (s : State) (src : Source) : AnnunciationOnly s (s.withdraw src) := by
  unfold State.withdraw
  split
  · exact (s.withRequests_frame _ _).trans (State.allocate_frame _)
  · exact .refl s

/-! ### The sequence of a point -/

theorem State.enlistAlarm_frame (s : State) (p : PointId) : AnnunciationOnly s (s.enlistAlarm p) := by
  unfold State.enlistAlarm
  split
  · exact .refl s
  · exact s.enlist_frame _ _ _ _ _

theorem State.alarmOccasion_frame (s : State) (p : PointId) : AnnunciationOnly s (s.alarmOccasion p) := by
  unfold State.alarmOccasion
  split
  · exact s.allocate_frame
  · exact .refl s

theorem State.postRingback_frame (s : State) (p : PointId) : AnnunciationOnly s (s.postRingback p) := by
  unfold State.postRingback
  split
  · exact .refl s
  · exact s.post_frame _ _ _ _ _

theorem State.postReminder_frame (s : State) (p : PointId) : AnnunciationOnly s (s.postReminder p) := by
  unfold State.postReminder
  split
  · exact .refl s
  · exact s.post_frame _ _ _ _ _

theorem State.reminders_frame (s : State) (c : BitVec 6) : AnnunciationOnly s (s.reminders c) := by
  unfold State.reminders
  split
  · exact AnnunciationOnly.foldl _ State.postReminder_frame _ _
  · exact .refl s

theorem State.leave_frame (s : State) (p : PointId) (reposts : Bool) : AnnunciationOnly s (s.leave p reposts) := by
  have key : AnnunciationOnly s
      ((if reposts then s else s.withdraw (.point p)).modSeq p fun a => { a with silenced := false }) := by
    split
    · exact s.modSeq_frame _ _
    · exact (s.withdraw_frame _).trans (State.modSeq_frame _ _ _)
  unfold State.leave
  split
  · exact key
  · exact key
  · exact .refl s
  · exact .refl s

theorem State.announce_frame (s : State) (p : PointId) (n : Half) (o : SeqOutcome) :
    AnnunciationOnly s (s.announce p n o) := by
  have listed := ((s.modSeq_frame p fun a =>
    { a with state := .alarmUnack, alarmTime := s.time.clock, silenced := false, toneDone := false }).trans
      (State.assignMark_frame _ p n)).trans (State.enlistAlarm_frame _ p)
  unfold State.announce
  dsimp only
  refine listed.trans (AnnunciationOnly.trans ?_ (State.setCause_frame _ _))
  split
  · exact (State.record_frame _ _ _ _ _).trans (State.alarmOccasion_frame _ _)
  · exact (State.alarmOccasion_frame _ _).trans (State.record_frame _ _ _ _ _)

theorem State.returnRecord_frame (s : State) (p : PointId) (b : Bool) : AnnunciationOnly s (s.returnRecord p b) := by
  unfold State.returnRecord
  split
  · exact s.record_frame _ _ _ _
  · exact .refl s

theorem State.enterAlarmUnack_frame (s : State) (p : PointId) (n : Half) :
    AnnunciationOnly s (s.enterAlarmUnack p n) := (s.leave_frame _ _).trans (State.announce_frame _ _ _ _)

theorem State.enterAlarmAck_frame (s : State) (p : PointId) : AnnunciationOnly s (s.enterAlarmAck p) :=
  (s.leave_frame _ _).trans (State.modSeq_frame _ _ _)

theorem State.enterReturnUnack_frame (s : State) (p : PointId) (b : Bool) :
    AnnunciationOnly s (s.enterReturnUnack p b) :=
  ((((s.leave_frame _ _).trans (State.modSeq_frame _ _ _)).trans (State.postRingback_frame _ _)).trans
    (State.returnRecord_frame _ _ _)).trans (State.setCause_frame _ _)

theorem State.enterNormal_frame (s : State) (p : PointId) (b : Bool) : AnnunciationOnly s (s.enterNormal p b) :=
  ((((s.leave_frame _ _).trans (State.modSeq_frame _ _ _)).trans (State.returnRecord_frame _ _ _)).trans
    (State.setCause_frame _ _)).trans (State.rearmCheck_frame _ _)

theorem State.takeMove_frame (s : State) (p : PointId) (m : Move) (ev : SeqEvent) (n : Half) :
    AnnunciationOnly s (s.takeMove p m ev n) := by
  unfold State.takeMove
  split
  · exact .refl s
  · exact s.announce_frame _ _ _
  · exact s.enterAlarmUnack_frame _ _
  · exact s.enterAlarmAck_frame _
  · exact s.enterReturnUnack_frame _ _
  · exact s.enterNormal_frame _ _

theorem State.applyAlarm_frame (s : State) (p : PointId) (n : Half) : AnnunciationOnly s (s.applyAlarm p n) := by
  unfold State.applyAlarm
  dsimp only
  split
  · exact s.record_frame _ _ _ _
  · split
    · exact s.record_frame _ _ _ _
    · exact s.takeMove_frame _ _ _ _

theorem State.applyReturn_frame (s : State) (p : PointId) : AnnunciationOnly s (s.applyReturn p) := by
  unfold State.applyReturn
  dsimp only
  split
  · exact s.record_frame _ _ _ _
  · split
    · exact s.record_frame _ _ _ _
    · exact s.takeMove_frame _ _ _ _

theorem State.handOn_frame (s : State) (p : PointId) (e : Option QualEvent) : AnnunciationOnly s (s.handOn p e) := by
  unfold State.handOn
  split
  · exact .refl s
  · exact s.applyAlarm_frame _ _
  · exact s.applyReturn_frame _

/-! ### Operator actions -/

/-- An action's part at one point stays within the frame. -/
def PointPart.Framed (f : PointPart) : Prop := ∀ s p, AnnunciationOnly s (f s p).1

theorem State.actionMove_frame (s : State) (p : PointId) (ev : SeqEvent) :
    AnnunciationOnly s (s.actionMove p ev).1 := by
  unfold State.actionMove
  split
  · exact .refl s
  · exact s.takeMove_frame _ _ _ _

theorem ackPoint_framed : PointPart.Framed ackPoint := by
  intro s p
  unfold ackPoint
  split
  · exact s.actionMove_frame _ _
  · exact .refl s

theorem silencePoint_framed : PointPart.Framed silencePoint := by
  intro s p
  unfold silencePoint
  dsimp only
  split
  · exact AnnunciationOnly.trans (s.withdraw_frame (.point p))
      (State.modSeq_frame (s.withdraw (.point p)) p fun a => { a with silenced := true })
  · exact .refl s

theorem resetPoint_framed : PointPart.Framed resetPoint := fun s p => s.actionMove_frame p _

theorem State.applyToScope_frame (s : State) (c : Scope) {f : PointPart} (hf : f.Framed) :
    AnnunciationOnly s (s.applyToScope c f).1 := by
  have key : ∀ (l : List PointId) (sn : State × Nat), AnnunciationOnly sn.1 (l.foldl (actOn c f) sn).1 := by
    intro l
    induction l with
    | nil => exact fun sn => .refl sn.1
    | cons p l ih =>
      intro sn
      refine AnnunciationOnly.trans ?_ (ih (actOn c f sn p))
      unfold actOn
      split
      · exact hf sn.1 p
      · exact .refl sn.1
  exact key _ (s, 0)

theorem State.actionCause_frame (s : State) (src : ActionSource) : AnnunciationOnly s (s.actionCause src) := by
  unfold State.actionCause
  split
  · exact s.setCause_frame _
  · exact .refl s

theorem State.pointAction_frame (s : State) (a : Action) {f : PointPart} (hf : f.Framed) (src : ActionSource)
    (c : Scope) : AnnunciationOnly s (s.pointAction a f src c) :=
  ((s.applyToScope_frame c hf).trans (State.record_frame _ _ _ _ _)).trans (State.actionCause_frame _ _)

/-! ### Shelving, the shelf's expiry, the voices -/

theorem State.shelvePoint_frame (s : State) (p : PointId) : AnnunciationOnly s (s.shelvePoint p) := by
  have key : AnnunciationOnly s
      (((s.withdraw (.point p)).modSeq p fun a =>
        { a with state := .normal, mark := .none, silenced := false, toneDone := false,
                 shelf := shelfOf s.window.shdur }).shelveRecord p false (s.point p).seq.state) :=
    ((s.withdraw_frame _).trans (State.modSeq_frame _ _ _)).trans (State.record_frame _ _ _ _ _)
  unfold State.shelvePoint
  dsimp only
  split
  · exact key
  · exact (key.trans (State.setCause_frame _ _)).trans (State.rearmCheck_frame _ _)

theorem State.setVoice_frame (s : State) (v : VoiceId) (x : Voice) : AnnunciationOnly s (s.setVoice v x) :=
  s.withVoices_frame _

theorem stepBoundaryStep_frame (v : VoiceId) (s : State) : AnnunciationOnly s (stepBoundaryStep v s) := by
  unfold stepBoundaryStep
  split
  · exact .refl s
  · split
    · split
      · exact ((s.setVoice_frame _ _).trans (State.soundMissing_frame _ _)).trans (State.allocate_frame _)
      · split
        · exact s.setVoice_frame _ _
        · exact ((s.setVoice_frame _ _).trans (State.removeSound_frame _ _)).trans (State.allocate_frame _)
    · exact .refl s

theorem envelopeDecayStep_frame (v : VoiceId) (s : State) : AnnunciationOnly s (envelopeDecayStep v s) := by
  unfold envelopeDecayStep
  split
  · exact .refl s
  · split
    · exact s.setVoice_frame _ _
    · exact .refl s

end Sys2Proof.Machine
end

