-- ==== Sys2Proof/Laws/Sounds.lean ====
section
/-! SUPPORT. What an allocation occasion, a withdrawal and a posting can do: the list only loses requests but for the
one posted, points change in tone done alone, no flag is cleared; with no header empty, voices alone change. -/

namespace Sys2Proof.Machine

/-! ### Flags are only set -/

theorem Irq.flag_set (u : Irq) (c d : Cause) : (u.set c).flag d = (u.flag d || decide (d = c)) := by
  simp only [Irq.set, Irq.flag, BitVec.getLsbD_or]
  congr 1
  cases c <;> cases d <;> decide

theorem Irq.flag_setAll (u : Irq) (cs : List Cause) (d : Cause) :
    (u.setAll cs).flag d = (u.flag d || decide (d ∈ cs)) := by
  unfold Irq.setAll
  induction cs generalizing u with
  | nil => simp
  | cons c cs ih => rw [List.foldl_cons, ih, Irq.flag_set]; simp [List.mem_cons, Bool.or_assoc]

theorem State.flag_setCause (s : State) (c d : Cause) :
    (s.setCause c).irq.flag d = (s.irq.flag d || decide (d = c)) := Irq.flag_set _ _ _

theorem State.flag_record (s : State) (k : Kind) (p : Option (Fin 32)) (a b : Nat) (d : Cause) :
    (s.record k p a b).irq.flag d = (s.irq.flag d || decide (d ∈ s.evq.offerCauses k)) := Irq.flag_setAll _ _ _

/-! ### What an occasion can do -/

/-- What an allocation occasion changes at most: voices, requests that leave, tone done, records and causes made. -/
def SoundsOnly (s t : State) : Prop :=
  AnnunciationOnly s t ∧ t.groups = s.groups ∧ t.tones.arrival = s.tones.arrival ∧
  t.tones.requests.Sublist s.tones.requests ∧
  (∀ p : PointId, (t.point p).seq = { (s.point p).seq with toneDone := (t.point p).seq.toneDone }) ∧
  ∀ c : Cause, s.irq.flag c = true → t.irq.flag c = true

theorem SoundsOnly.refl (s : State) : SoundsOnly s s :=
  ⟨.refl s, rfl, rfl, .refl _, fun _ => rfl, fun _ h => h⟩

theorem SoundsOnly.trans {s t u : State} (h : SoundsOnly s t) (k : SoundsOnly t u) : SoundsOnly s u := by
  obtain ⟨h1, h2, h3, h4, h5, h6⟩ := h
  obtain ⟨k1, k2, k3, k4, k5, k6⟩ := k
  refine ⟨h1.trans k1, k2.trans h2, k3.trans h3, k4.trans h4, fun p => ?_, fun c hc => k6 c (h6 c hc)⟩
  rw [k5 p, h5 p]

theorem SoundsOnly.foldl {α : Type} (f : State → α → State) (h : ∀ s a, SoundsOnly s (f s a)) (l : List α) :
    ∀ s, SoundsOnly s (l.foldl f s) := by
  induction l with
  | nil => exact SoundsOnly.refl
  | cons a l ih => exact fun s => (h s a).trans (ih (f s a))

theorem State.record_sounds (s : State) (k : Kind) (p : Option (Fin 32)) (a b : Nat) :
    SoundsOnly s (s.record k p a b) := by
  refine ⟨s.record_frame _ _ _ _, rfl, rfl, .refl _, fun _ => rfl, fun c hc => ?_⟩
  simp [State.flag_record, hc]

theorem State.setCause_sounds (s : State) (c : Cause) : SoundsOnly s (s.setCause c) := by
  refine ⟨s.setCause_frame _, rfl, rfl, .refl _, fun _ => rfl, fun d hd => ?_⟩
  simp [State.flag_setCause, hd]

theorem State.withVoices_sounds (s : State) (vs : Vector Voice 4) : SoundsOnly s { s with voices := vs } :=
  ⟨s.withVoices_frame _, rfl, rfl, .refl _, fun _ => rfl, fun _ h => h⟩

theorem State.removeSound_sounds (s : State) (x : Sound) : SoundsOnly s (s.removeSound x) := by
  refine ⟨s.removeSound_frame x, rfl, rfl, List.filter_sublist, fun p => ?_, fun _ h => h⟩
  have := foldl_markToneDone_keeps (s.tones.requests.filter fun r => r.sound = x) s.points p
  simp only [State.point, State.removeSound]
  rw [this]

theorem State.soundMissing_sounds (s : State) (x : Sound) : SoundsOnly s (s.soundMissing x) :=
  ((s.removeSound_sounds x).trans (SoundsOnly.foldl _ (fun t _ => t.record_sounds _ _ _ _) _ _)).trans
    (State.setCause_sounds _ _)

theorem State.startSound_sounds (slots : List (Option Sound)) (s : State) (x : Sound) :
    SoundsOnly s (s.startSound slots x) := by
  unfold State.startSound
  split
  · exact s.soundMissing_sounds x
  · split
    · exact .refl s
    · exact s.withVoices_sounds _

theorem State.carryOut_sounds (s : State) (p : Plan) : SoundsOnly s (s.carryOut p) :=
  (s.withVoices_sounds _).trans (SoundsOnly.foldl _ (State.startSound_sounds p.slots) _ _)

theorem State.allocateFuel_sounds (n : Nat) : ∀ s : State, SoundsOnly s (s.allocateFuel n) := by
  induction n with
  | zero => exact SoundsOnly.refl
  | succ n ih =>
    intro s
    unfold State.allocateFuel
    dsimp only
    split
    · exact (s.carryOut_sounds _).trans (ih _)
    · exact s.carryOut_sounds _

/-- What an allocation occasion can do (R144, R153). -/
theorem State.allocate_sounds (s : State) : SoundsOnly s s.allocate := s.allocateFuel_sounds _

theorem State.allocateIfLimitChanged_sounds (s : State) (n : Nat) : SoundsOnly s (s.allocateIfLimitChanged n) := by
  unfold State.allocateIfLimitChanged
  split
  · exact .refl s
  · exact s.allocate_sounds

/-- A withdrawal is an occasion that leaves the source without a request (R140). -/
theorem State.withdraw_sounds (s : State) (src : Source) :
    SoundsOnly s (s.withdraw src) ∧ (s.withdraw src).holdsRequest src = false := by
  unfold State.withdraw
  split
  · rename_i held
    have list : SoundsOnly s
        { s with tones := { s.tones with requests := s.tones.requests.filter fun q => q.source ≠ src } } :=
      ⟨s.withRequests_frame _ _, rfl, rfl, List.filter_sublist, fun _ => rfl, fun _ h => h⟩
    have occasion := State.allocate_sounds
      { s with tones := { s.tones with requests := s.tones.requests.filter fun q => q.source ≠ src } }
    refine ⟨list.trans occasion, ?_⟩
    have sub := occasion.2.2.2.1
    simp only [State.holdsRequest, List.any_eq_false, decide_eq_true_eq]
    intro r hr
    simpa using (List.mem_filter.mp (sub.subset hr)).2
  · rename_i held
    exact ⟨.refl s, by simpa using held⟩

/-- A posting (R139, R140): the list is at most the old one without the source's request, and the new request at its
tail; the arrival counter goes up by one; nothing else but what an occasion can do. -/
theorem State.post_sounds (s : State) (src : Source) (kind : RequestKind) (pattern : PatternId) (rule : PassRule)
    (priority : Option (Fin 4)) :
    let t := s.post src kind pattern rule priority
    t.groups = s.groups ∧ t.tones.arrival = s.tones.arrival + 1 ∧
    t.tones.requests.Sublist ((s.tones.requests.filter fun q => q.source ≠ src) ++
      [{ source := src, kind := kind, pattern := pattern, rule := rule, priority := priority
         arrival := s.tones.arrival }]) ∧
    (∀ p : PointId, (t.point p).seq = { (s.point p).seq with toneDone := (t.point p).seq.toneDone }) ∧
    ∀ c : Cause, s.irq.flag c = true → t.irq.flag c = true := by
  intro t
  obtain ⟨-, h2, h3, h4, h5, h6⟩ := State.allocate_sounds (s.enlist src kind pattern rule priority)
  exact ⟨h2, h3, h4, h5, h6⟩

/-! ### With no header empty -/

/-- Every pattern has a valid header. -/
def Store.AllValid (st : Store) : Prop := ∀ p : PatternId, (st.headers[p]).isSome = true

theorem State.startSound_valid (slots : List (Option Sound)) (s : State) (x : Sound) (h : s.store.AllValid) :
    ∃ vs, s.startSound slots x = { s with voices := vs } := by
  have valid : (s.store.header x.pattern).isSome = true := h x.pattern
  unfold State.startSound
  split
  · rename_i none_; simp [none_] at valid
  · split
    · exact ⟨s.voices, rfl⟩
    · exact ⟨_, rfl⟩

theorem State.foldl_startSound_valid (slots : List (Option Sound)) (l : List Sound) :
    ∀ s : State, s.store.AllValid → ∃ vs, l.foldl (State.startSound slots) s = { s with voices := vs } := by
  induction l with
  | nil => exact fun s _ => ⟨s.voices, rfl⟩
  | cons x l ih =>
    intro s h
    obtain ⟨vs, hvs⟩ := s.startSound_valid slots x h
    obtain ⟨ws, hws⟩ := ih { s with voices := vs } h
    exact ⟨ws, by rw [List.foldl_cons, hvs, hws]⟩

/-- An occasion while no header is empty carries one plan out, and changes voices alone (R144). -/
theorem State.allocate_valid (s : State) (h : s.store.AllValid) :
    s.allocate = s.carryOut s.plan ∧ ∃ vs, s.allocate = { s with voices := vs } := by
  have one : s.allocate = s.carryOut s.plan := by
    have none_ : s.plan.anyMissing s.store = false := by
      simp only [Plan.anyMissing, List.any_eq_false, Option.isNone_iff_eq_none]
      intro x _ e
      have valid : (s.store.header x.pattern).isSome = true := h x.pattern
      simp [e] at valid
    simp [State.allocate, State.allocateFuel, none_]
  refine ⟨one, ?_⟩
  obtain ⟨vs, hvs⟩ := State.foldl_startSound_valid s.plan.slots s.plan.starting
    { s with voices := keepVoices s.voices fun x => decide (some x ∈ s.plan.slots) } h
  exact ⟨vs, one.trans hvs⟩

/-- A posting while no header is empty: the old list without the source's request, and the new one at its tail
(R139, R140). -/
theorem State.post_valid (s : State) (src : Source) (kind : RequestKind) (pattern : PatternId) (rule : PassRule)
    (priority : Option (Fin 4)) (h : s.store.AllValid) :
    ∃ vs, s.post src kind pattern rule priority =
      { s with
        tones :=
          { s.tones with
            requests := (s.tones.requests.filter fun q => q.source ≠ src) ++
              [{ source := src, kind := kind, pattern := pattern, rule := rule, priority := priority
                 arrival := s.tones.arrival }]
            arrival := s.tones.arrival + 1 }
        voices := vs } := by
  obtain ⟨vs, hvs⟩ := (State.allocate_valid (s.enlist src kind pattern rule priority) h).2
  exact ⟨vs, hvs⟩

end Sys2Proof.Machine
end

