-- ==== Sys2Proof/Laws/Tick.lean ====
section
/-! SUPPORT. A tick at which no event of the tick before is left over takes none, or its late access alone. -/

namespace Sys2Proof.Machine

/-- No event is due but, at most, a store access that does not complete its entry. -/
def State.NoEventDue (s : State) : Prop :=
  s.initDue = false ∧ s.scanDue = false ∧ (∀ p : PointId, (s.point p).seq.shelf.expired = false) ∧
  s.panel.sampleDue = false ∧ s.hornDue = false ∧ s.timeoutDue = false ∧ s.eighthDue = false ∧
  s.releaseDue = false ∧ (match s.time.lowRun with | .ended _ => False | _ => True) ∧ s.missDue = false ∧
  (∀ e ∈ s.xfer.queue.head?, s.xfer.accessDue = true → e.nextIsLast s.store = false) ∧
  (∀ v : VoiceId, ∀ x ∈ s.voices[v], x.boundaryDue = false ∧ x.decayDue = false) ∧ s.supply.sampleDue = false

/-- Nothing is due: none of what `State.takeDue` looks for. -/
def State.NothingDue (s : State) : Prop :=
  s.initDue = false ∧ s.scanDue = false ∧ (∀ p : PointId, (s.point p).seq.shelf.expired = false) ∧
  s.panel.sampleDue = false ∧ s.hornDue = false ∧ s.timeoutDue = false ∧ s.eighthDue = false ∧
  s.releaseDue = false ∧ (match s.time.lowRun with | .ended _ => False | _ => True) ∧ s.missDue = false ∧ s.xfer.accessDue = false ∧
  (∀ v : VoiceId, ∀ x ∈ s.voices[v], x.boundaryDue = false ∧ x.decayDue = false) ∧ s.supply.sampleDue = false

theorem State.NothingDue.noEventDue {s : State} (h : s.NothingDue) : s.NoEventDue := by
  obtain ⟨h1, h2, h3, h4, h5, h6, h7, h8, h9, h10, h11, h12, h13⟩ := h
  exact ⟨h1, h2, h3, h4, h5, h6, h7, h8, h9, h10, fun _ _ due => by simp [h11] at due, h12, h13⟩

theorem foldl_const {α β : Type} (f : β → α → β) (s : β) (l : List α) (h : ∀ a ∈ l, f s a = s) : l.foldl f s = s := by
  induction l with
  | nil => rfl
  | cons a l ih => rw [List.foldl_cons, h a (by simp), ih fun b hb => h b (by simp [hb])]

/-- With no event due, what is left of the tick before is its late access alone (log 7). -/
theorem State.takeDue_of_noEventDue {s : State} (h : s.NoEventDue) : s.takeDue = s.lateAccess := by
  obtain ⟨hInit, hScan, hShelf, hPanel, hHorn, hOut, hEighth, hRelease, hLow, hMiss, hAccess, hVoice, hSupply⟩ := h
  have e1 : initDoneStep s = s := by simp [initDoneStep, hInit]
  have e2 : scanStep [] s = s := by simp [scanStep, hScan]
  have e3 : settleEndStep s = s := by simp [settleEndStep, State.settleEndDue, hScan]
  have e4 : allPoints.foldl (fun t p => shelfExpiryStep p t) s = s :=
    foldl_const _ _ _ fun p _ => by simp [shelfExpiryStep, hShelf p]
  have e5 : buttonSampleStep [] s = s := by simp [buttonSampleStep, hPanel]
  have e6 : hornTestStep s = s := by simp [hornTestStep, hHorn]
  have e7 : testTimeoutStep s = s := by simp [testTimeoutStep, hOut]
  have e8 : eighthEndStep s = s := by simp [eighthEndStep, hEighth]
  have e9 : lineReleaseStep s = s := by simp [lineReleaseStep, hRelease]
  have e10 : pulseStep s = s := by
    unfold pulseStep
    split
    · rename_i n hn; simp [hn] at hLow
    all_goals rfl
  have e11 : missStep s = s := by simp [missStep, hMiss]
  have e12 : commitCompletionStep s = s := by
    unfold commitCompletionStep
    split
    · rfl
    · rename_i e rest hq
      have := hAccess e (by simp [hq])
      split <;> simp_all
  have e13 : fetchCompletionStep s = s := by
    unfold fetchCompletionStep
    split
    · rfl
    · rename_i e rest hq
      have := hAccess e (by simp [hq])
      split <;> simp_all
  have e14 : (List.finRange 4).foldl (fun t v => stepBoundaryStep v t) s = s :=
    foldl_const _ _ _ fun v _ => by
      unfold stepBoundaryStep
      split
      · rfl
      · rename_i x hx; simp [(hVoice v x hx).1]
  have e15 : (List.finRange 4).foldl (fun t v => envelopeDecayStep v t) s = s :=
    foldl_const _ _ _ fun v _ => by
      unfold envelopeDecayStep
      split
      · rfl
      · rename_i x hx; simp [(hVoice v x hx).2]
  have e16 : supplySampleStep s = s := by simp [supplySampleStep, hSupply]
  simp only [State.takeDue, e1, e2, e3, e4, e5, e6, e7, e8, e9, e10, e11, e12, e13, e14, e15, e16]

/-- With nothing due, a tick takes nothing of the tick before. -/
theorem State.takeDue_of_nothingDue {s : State} (h : s.NothingDue) : s.takeDue = s := by
  have access : s.xfer.accessDue = false := h.2.2.2.2.2.2.2.2.2.2.1
  rw [State.takeDue_of_noEventDue h.noEventDue]
  unfold State.lateAccess
  split <;> simp [access]

end Sys2Proof.Machine
end

