-- ==== Sys2Proof/Tests/Slice0.lean ====
section
/-! SUPPORT. Tests: well-formedness, states and operands that meet the hypotheses of each statement, with the
boundary values of its clauses, and single steps of the manual's examples. -/

namespace Sys2Proof.Tests

set_option Elab.async false

open Sys2Proof Sys2Proof.Machine

/-! ### States -/

/-- SETUP after a full initialisation. -/
def setup : State :=
  { State.reset with
    ctl := { Control.reset with state := .setup }
    store := { Store.reset with stepsInitialised := true, init := none } }

/-- A configuration part: enabled, with a class and the alarm pattern 1. -/
def config (c : AlarmClass) : PointConfig :=
  { PointConfig.reset with enabled := true, cls := c, alarmPattern := some 1, debounceLess1 := 0 }

/-- The header of a pattern of one step. -/
def oneStep : ValidHeader := { rep := .once, envelope := .off, count := 1, first := 0 }

/-- ACTIVE, point 3 enabled with class `c` in a sequence state, every pattern valid. -/
def activeWith (c : AlarmClass) (q : Qual) (a : Seq) : State :=
  { setup with
    ctl := { Control.reset with state := .active }
    scan := { State.reset.scan with count := some 0 }
    points := setup.points.set 3 { cfg := config c, qual := q, seq := a }
    store := { setup.store with headers := Vector.replicate 32 (some oneStep) } }

def active : State := activeWith .l .clear .clear

/-- The qualification of a standing condition. -/
def standing : Qual := { Qual.clear with abnormal := true, active := true }

/-- A sequence in a state, with nothing else in its fields. -/
def inState (st : SeqState) : Seq := { Seq.clear with state := st }

/-- A sequence with a finite shelf that has run out. -/
def expired : Seq := { Seq.clear with shelf := .finite 0 0 }

def hold : State := { active with ctl := { active.ctl with state := .hold }, scan := { active.scan with count := none } }

/-- ARMING with the settle time just reached and a scan due. -/
def arming : State :=
  { active with
    ctl := { active.ctl with state := .arming, settleStart := some 0, setl := 20 }
    scan := { active.scan with count := some 5 }
    time := { active.time with clock := 2000 } }

/-- The reset input held low. -/
def low : State := { setup with resetLow := true }

/-- A state at a value of the run clock. -/
def at' (s : State) (t : Clock) : State := { s with time := { s.time with clock := t } }

/-- A state with its Timebase changed. -/
def timed (s : State) (f : Timebase → Timebase) : State := { s with time := f s.time }

/-- A state with the test record changed. -/
def tested (s : State) (t : TestRecord) : State := { s with panel := { s.panel with test := t } }

/-- ACTIVE with a running test: the panel's press and the test began at 0. -/
def testing (st : TestState) : State :=
  tested active { state := st, start := 0, panelParty := true, press := 0, hostParty := false }

/-- A state with the supply changed. -/
def supplied (s : State) (f : Supply → Supply) : State := { s with supply := f s.supply }

/-- A transfer queue of one entry, its access due. -/
def queued (t : Transfer) (made : Nat) : State :=
  { active with xfer :=
      { active.xfer with queue := [{ id := 1, transfer := t, progress := some made }], accessDue := true } }

/-- The same entry with no access due yet. -/
def waiting (t : Transfer) (made : Nat) : State :=
  { active with xfer := { active.xfer with queue := [{ id := 1, transfer := t, progress := some made }] } }

def aStep : Machine.Step := { tone := none, level := 8, duration := 1 }

/-- An ALARM request of point 3. -/
def alarmRequest : Request :=
  { source := .point 3, kind := .alarm, pattern := 1, rule := .header, priority := some 0, arrival := 0 }

/-- A voice that plays pattern 1 under HEADER. -/
def playing (passes : Option Nat) (remaining : Nat) : Playing :=
  { sound := alarmRequest.sound, held := oneStep, stepIndex := 0, latched := aStep, remaining := remaining,
    passes := passes, envLevel := 8, envCount := 0 }

/-- ACTIVE with one request and the voice that serves it. -/
def sounding (x : Playing) : State :=
  { active with
    points := active.points.set 3 { cfg := config .l, qual := standing, seq := inState .alarmUnack }
    tones := { active.tones with requests := [alarmRequest], arrival := 1 }
    voices := active.voices.set 0 (some x) }

/-- A state whose Event Queue holds one record, latched. -/
def recorded : State :=
  let r : Record := { kind := .refusal, seq := 0, time := 0, point := none, source := 0, detail := 1 }
  { setup with
    evq := { setup.evq with records := [r], seq := 1, latch := some r }
    irq := setup.irq.set .evqne }

/-- The queue with a command in front. -/
def given (s : State) (c : Instr) : State := { s with pending := [c] }

/-! ### Well-formedness -/

theorem test_scan_naming_a_point_twice_is_ill_formed : (Instr.scan [3, 5, 3]).wellFormed = false := by decide
theorem test_scan_naming_points_once_is_well_formed : (Instr.scan [3, 5]).wellFormed = true := by decide
theorem test_buttons_named_twice_are_ill_formed : (Instr.buttonSample [.ack, .ack]).wellFormed = false := by decide
theorem test_buttons_named_once_are_well_formed : (Instr.buttonSample [.tst, .ack]).wellFormed = true := by decide
theorem test_write_with_own_row_is_ill_formed : (Instr.registerWrite 0x48 2).wellFormed = false := by decide
theorem test_command_code_with_own_row_is_ill_formed : (Instr.registerWrite 0x00 1).wellFormed = false := by decide
theorem test_chime_flags_have_own_row : (Instr.registerWrite 0x4F 0x7E).wellFormed = false := by decide
theorem test_code_that_names_nothing_is_well_formed : (Instr.registerWrite 0x00 9).wellFormed = true := by decide
theorem test_plain_register_write_is_well_formed : (Instr.registerWrite 0x2A 200).wellFormed = true := by decide
theorem test_no_row_gives_bits : decodeTableWord 8 1 = none := by decide

/-! ### Hypotheses met: queue, resets, ticks -/

theorem test_idle_queue : setup.pending = [] := by decide

theorem test_ResetCommands_hypotheses :
    active.resetLow = false ∧ low.resetLow = true ∧ Instr.start ≠ .powerOnReset ∧ Instr.start ≠ .hardwareReset ∧
    Instr.start ≠ .resetInputAsserted ∧ ∀ p l, Instr.start ≠ .tick p l := by
  refine ⟨by decide, by decide, by decide, by decide, by decide, fun p l h => by cases h⟩

theorem nothingDue_active : active.NothingDue := by
  refine ⟨?_, ?_, ?_, ?_, ?_, ?_, ?_, ?_, trivial, ?_, ?_, ?_, ?_⟩ <;> decide +kernel

theorem test_TickCounts_hypotheses : active.resetLow = false ∧ active.takeDue = active :=
  ⟨by decide, State.takeDue_of_nothingDue nothingDue_active⟩

theorem test_TickCounts_shelf_boundary : (998 : Nat) + 1 < 1000 ∧ (Shelf.finite 0 0).expired = true := by decide

/-- INIT of a full initialisation at a value of the run clock. -/
theorem nothingDue_init (t : Clock) (h : t = 0 ∨ t = 31 ∨ t = 32 ∨ t = 287) : (at' State.reset t).NothingDue := by
  refine ⟨?_, ?_, ?_, ?_, ?_, ?_, ?_, ?_, trivial, ?_, ?_, ?_, ?_⟩ <;>
    rcases h with h | h | h | h <;> subst h <;> decide +kernel

theorem test_Initialisation_hypotheses :
    State.reset.resetLow = false ∧ (at' State.reset 0).takeDue = at' State.reset 0 ∧
    (at' State.reset 31).takeDue = at' State.reset 31 ∧ (at' State.reset 32).takeDue = at' State.reset 32 ∧
    (at' State.reset 287).takeDue = at' State.reset 287 ∧ State.reset.ctl.state = .init ∧
    State.reset.store.init = some .full :=
  ⟨by decide, State.takeDue_of_nothingDue (nothingDue_init 0 (by simp)),
    State.takeDue_of_nothingDue (nothingDue_init 31 (by simp)),
    State.takeDue_of_nothingDue (nothingDue_init 32 (by simp)),
    State.takeDue_of_nothingDue (nothingDue_init 287 (by simp)), by decide, by decide⟩

theorem test_Initialisation_boundaries :
    ((0 : Clock) + 1).toNat = (0 : Fin 32).val + 1 ∧ ((31 : Clock) + 1).toNat = (31 : Fin 32).val + 1 ∧
    ((32 : Clock) + 1).toNat = (0 : Fin 256).val + 33 ∧ ((287 : Clock) + 1).toNat = (255 : Fin 256).val + 33 := by
  decide

theorem test_InitDone_hypotheses :
    (at' State.reset 288).ctl.state = .init ∧ (at' State.reset 288).store.init = some .full ∧
    288 ≤ (at' State.reset 288).time.clock.toNat ∧ 32 ≤ (at' State.reset 32).time.clock.toNat := by decide

/-! ### Hypotheses met: the controller -/

theorem test_StartEntersArming_hypotheses : setup.resetLow = false ∧ setup.ctl.state = .setup := by decide

theorem test_StopClearsRun_hypotheses :
    arming.resetLow = false ∧ arming.ctl.state = .arming ∧ hold.ctl.state = .hold ∧ active.ctl.state = .active ∧
    active.panel.test.state = .idle ∧ (testing .lampTest).resetLow = false ∧
    (testing .lampTest).ctl.state = .active ∧ (testing .lampTest).panel.test.state ≠ .idle ∧
    (testing .lampAndHornTest).panel.test.state = .lampAndHornTest := by decide

theorem runKept_active : active.RunKept := by
  refine ⟨?_, ?_, ?_, ?_, ?_, ?_, ?_, ?_, ?_, ?_⟩ <;> decide +kernel

theorem test_HoldFreezes_hypotheses :
    active.resetLow = false ∧ active.ctl.state = .active ∧ active.RunKept ∧ active.panel.test.state = .idle ∧
    ∀ p : PointId, (active.point p).seq.shelf.expired = false :=
  ⟨by decide, by decide, runKept_active, by decide, by decide +kernel⟩

theorem test_HoldFreezes_running_test :
    (testing .lampTest).resetLow = false ∧ (testing .lampTest).ctl.state = .active ∧
    (testing .lampTest).panel.test.state ≠ .idle ∧
    (∀ p : PointId, ((testing .lampTest).point p).seq.shelf.expired = false) ∧
    (testing .lampAndHornTest).panel.test.state = .lampAndHornTest := by decide +kernel

theorem test_ResumeThaws_hypotheses :
    hold.resetLow = false ∧ hold.ctl.state = .hold ∧ hold.evq.masked .controller = false := by decide

theorem test_SoftresetClears_hypotheses :
    (waiting (.fetch none) 0).resetLow = false ∧ (waiting (.fetch none) 0).ctl.state ≠ .init ∧
    ((waiting (.fetch none) 0).ctl.state = .active → (waiting (.fetch none) 0).panel.test.state = .idle) := by decide

theorem eventsKept_recorded : recorded.EventsKept := by
  refine ⟨by decide, ?_, by decide, by decide⟩
  unfold EventQueue.Consecutive
  decide

theorem test_SoftresetClears_events : recorded.resetLow = false ∧ recorded.ctl.state ≠ .init ∧ recorded.EventsKept :=
  ⟨by decide, by decide, eventsKept_recorded⟩

theorem test_Refusals_hypotheses :
    active.resetLow = false ∧ active.ctl.state ≠ .setup ∧ setup.ctl.state = .setup ∧ setup.ctl.state ≠ .active ∧
    setup.ctl.state ≠ .hold ∧ State.reset.ctl.state = .init := by decide

/-! ### Hypotheses met: points and sequences -/

theorem test_QualificationRules_hypotheses :
    (false = Qual.clear.abnormal) ∧ (true ≠ Qual.clear.abnormal) ∧
    Qual.clear.agreement + 1 ≠ PointConfig.reset.debounce ∧ Qual.clear.agreement + 1 = (config .l).debounce ∧
    (config .l).enabled = true ∧ PointConfig.reset.enabled = false := by decide

/-- Elapsed times at the setting of 2 units, just below it, and across the clock's wrap. -/
theorem test_QualificationRules_boundaries :
    (2#12).toNat * 10 ≤ (20#32 - 0#32).toNat ∧ (19#32 - 0#32).toNat < (2#12).toNat * 10 ∧
    (2#12).toNat * 10 ≤ (10#32 - 4294967286#32).toNat := by decide

/-- ACTIVE with a scan due and point 3's input at its alarm level. -/
def scanning (c : AlarmClass) (q : Qual) (a : Seq) (inputs : BitVec 32) : State :=
  { activeWith c q a with
    scan := { State.reset.scan with count := some 5 }
    pins := { initialPins with inputs := inputs } }

theorem test_ScanResult_hypotheses :
    let s := scanning .l .clear .clear 0xFFFFFFFF
    s.resetLow = false ∧ s.ctl.state = .active ∧ s.scan.count = some 5 ∧ s.scan.period.ticks ≤ 5 ∧
    s.settleEndDue = false ∧ ∀ p : PointId, ((s.point p).scanned (s.pins.inputs.getLsbD p) s.time.clock).2 = none := by
  decide +kernel

theorem test_ScanResult_one_event :
    let s := scanning .l .clear .clear 0
    let r := scanning .l standing (inState .alarmAck) 0xFFFFFFFF
    (∀ p : PointId, p ≠ 3 → ((s.point p).scanned (s.pins.inputs.getLsbD p) s.time.clock).2 = none) ∧
    ((s.point 3).scanned (s.pins.inputs.getLsbD (3 : PointId)) s.time.clock).2 = some .alarm ∧
    (∀ p : PointId, p ≠ 3 → ((r.point p).scanned (r.pins.inputs.getLsbD p) r.time.clock).2 = none) ∧
    ((r.point 3).scanned (r.pins.inputs.getLsbD (3 : PointId)) r.time.clock).2 = some .return := by
  decide +kernel

/-- Two events at one scan: an alarm of point 3 and a return of point 5. -/
theorem test_ScanResult_two_events :
    let r := scanning .l .clear .clear 0xFFFFFFF7
    let s := { r with points := r.points.set 5 { cfg := config .m, qual := standing, seq := inState .alarmAck } }
    s.resetLow = false ∧ s.ctl.state = .active ∧ s.scan.count = some 5 ∧ s.scan.period.ticks ≤ 5 ∧
    ((s.point 3).scanned (s.pins.inputs.getLsbD (3 : PointId)) s.time.clock).2 = some .alarm ∧
    ((s.point 5).scanned (s.pins.inputs.getLsbD (5 : PointId)) s.time.clock).2 = some .return := by decide +kernel

theorem test_ScanResult_arming :
    let s := at' arming 1999
    s.resetLow = false ∧ s.ctl.state = .arming ∧ s.scan.count = some 5 ∧ s.settleEndDue = false := by decide +kernel

theorem runKept_arming : arming.RunKept := by
  refine ⟨?_, ?_, ?_, ?_, ?_, ?_, ?_, ?_, ?_, ?_⟩ <;> decide +kernel

theorem test_SettleEndAnnounces_hypotheses :
    arming.resetLow = false ∧ arming.ctl.state = .arming ∧ arming.scan.count = some 5 ∧
    arming.scan.period.ticks ≤ 5 ∧ arming.ctl.settleStart = some 0 ∧
    arming.ctl.setl.toNat * 100 ≤ (arming.time.clock - 0).toNat ∧ arming.RunKept :=
  ⟨by decide, by decide, by decide, by decide, by decide, by decide, runKept_arming⟩

theorem test_SettleEndAnnounces_clauses :
    ((arming.point 3).cfg.enabled = true ∧
      ((arming.point 3).scanned (arming.pins.inputs.getLsbD (3 : PointId)) arming.time.clock).1.active = true) ∧
    arming.ctl.quietStart = false ∧ (arming.point 4).cfg.enabled = false ∧
    (∀ p : PatternId, (arming.store.headers[p]).isSome = true) := by decide +kernel

/-- The same under quiet start. -/
def quiet : State := { arming with ctl := { arming.ctl with quietStart := true } }

theorem test_SettleEndAnnounces_quiet_start : quiet.settleEndDue = true ∧ quiet.ctl.quietStart = true ∧ quiet.RunKept :=
  ⟨by decide +kernel, by decide, runKept_arming⟩

theorem test_AlarmEntry_hypotheses :
    ((activeWith .l .clear expired).point 3).seq.shelf ≠ .none ∧
    ((activeWith .m standing (inState .alarmAck)).point 3).seq.shelf = .none ∧
    ((activeWith .m standing (inState .alarmAck)).point 3).seq.state = .alarmAck ∧
    ((activeWith .m standing (inState .alarmAck)).point 3).cfg.cls = .m ∧
    (active.point 3).seq.state = .normal ∧ (active.point 3).seq.shelf = .none ∧ active.evq.masked .alarm = false ∧
    ((activeWith .l .clear (inState .alarmUnack)).point 3).seq.state = .alarmUnack ∧
    ((activeWith .l .clear (inState .alarmUnack)).point 3).cfg.cls ≠ .n ∧
    ((activeWith .r .clear (inState .returnUnack)).point 3).seq.state = .returnUnack ∧
    ((activeWith .r .clear (inState .returnUnack)).point 3).cfg.cls = .r ∧
    (active.point 3).cfg.alarmPattern = some 1 ∧ (∀ i : PatternId, (active.store.headers[i]).isSome = true) := by
  decide +kernel

/-- Point 3 in a sequence state, of class R, with its two patterns given. -/
def ringing (a : Option PatternId) (b : Option PatternId) (q : Qual) (st : SeqState) : State :=
  let x : Machine.Point :=
    { cfg := { config .r with alarmPattern := a, ringbackPattern := b }, qual := q, seq := inState st }
  { active with points := active.points.set 3 x }

theorem test_AlarmEntry_no_pattern :
    ((ringing none (some 2) .clear .returnUnack).point 3).cfg.alarmPattern = none ∧
    ((ringing none (some 2) .clear .returnUnack).point 3).seq.state = .returnUnack ∧
    ((ringing none (some 2) .clear .returnUnack).point 3).seq.shelf = .none := by decide +kernel

theorem test_ReturnEntry_ringback :
    ((ringing (some 1) (some 2) standing .alarmAck).point 3).cfg.ringbackPattern = some 2 ∧
    ((ringing (some 1) (some 2) standing .alarmAck).point 3).seq.state = .alarmAck ∧
    ((ringing (some 1) none standing .alarmAck).point 3).cfg.ringbackPattern = none ∧
    (∀ i : PatternId, ((ringing (some 1) (some 2) standing .alarmAck).store.headers[i]).isSome = true) := by
  decide +kernel

theorem test_ReturnEntry_hypotheses :
    ((activeWith .n standing (inState .alarmUnack)).point 3).cfg.cls = .n ∧
    ((activeWith .n standing (inState .alarmUnack)).point 3).seq.state = .alarmUnack ∧
    ((activeWith .l standing (inState .alarmAck)).point 3).cfg.cls = .l ∧
    ((activeWith .l standing (inState .alarmAck)).point 3).seq.state = .alarmAck ∧
    ((activeWith .r standing (inState .alarmAck)).point 3).cfg.cls = .r ∧
    ((activeWith .r standing (inState .alarmAck)).point 3).seq.shelf = .none := by decide +kernel

theorem test_LampOutputs_hypotheses :
    (active.point 3).cfg.enabled = true ∧ (active.point 3).seq.shelf = .none ∧ (active.point 4).cfg.enabled = false ∧
    setup.ctl.state ≠ .active ∧ setup.panel.test.state = .idle ∧ active.supply.state = .ok ∧
    (testing .lampTest).panel.test.state ≠ .idle ∧
    (supplied active fun u => { u with state := .economy }).supply.state = .economy ∧
    (supplied active fun u => { u with state := .blackout }).supply.state = .blackout := by decide +kernel

/-! ### Hypotheses met: shelving and groups -/

/-- A state with point 3 selected. -/
def selected (s : State) : State := { s with window := { s.window with psel := 3 } }

theorem test_ShelveCommand_hypotheses :
    active.resetLow = false ∧ active.ctl.state = .active ∧ (active.point active.window.psel).cfg.enabled = false ∧
    ((selected active).point 3).cfg.enabled = true ∧ ((selected active).point 3).seq.shelf = .none ∧
    ((selected active).point 3).seq.state = .normal ∧ (selected active).holdsRequest (.point 3) = false ∧
    ((selected (activeWith .l .clear expired)).point 3).seq.shelf ≠ .none := by decide +kernel

theorem test_ShelveCommand_alarmed :
    let s := selected (activeWith .l standing (inState .alarmUnack))
    s.resetLow = false ∧ s.ctl.state = .active ∧ (s.point 3).cfg.enabled = true ∧ (s.point 3).seq.shelf = .none ∧
    (s.point 3).seq.state ≠ .normal := by decide +kernel

theorem test_UnshelveAndExpiry_hypotheses :
    let s := selected (activeWith .l standing expired)
    s.resetLow = false ∧ s.ctl.state = .active ∧ (s.point s.window.psel).cfg.enabled = true ∧
    (s.point s.window.psel).seq.shelf ≠ .none ∧ (s.point 3).seq.shelf = .finite 0 0 := by decide +kernel

/-- ACTIVE with point 3 a member of group 2, the group as given. -/
def grouped (g : Group) (a : Seq) : State :=
  { active with
    points := active.points.set 3 { cfg := { config .l with group := some 2 }, qual := standing, seq := a }
    groups := active.groups.set 2 g
    gsel := 2 }

theorem test_GroupRules_hypotheses :
    (active.point 3).cfg.group = none ∧ ((grouped .opened .clear).point 3).cfg.group = some 2 ∧
    ((grouped .opened .clear).group 2).captured = false ∧
    ((grouped { captured := true, captureScan := 7 } .clear).group 2).captured = true ∧
    ((grouped { captured := true, captureScan := 7 } .clear).group 2).captureScan = 7 ∧
    ((grouped { captured := true, captureScan := 7 } .clear).point 3).seq.mark = .none ∧
    ((grouped { captured := true, captureScan := 7 } { inState .alarmAck with mark := .first }).point 3).seq.mark =
      .first := by decide +kernel

/-- A point that captures its group, one that ties, and one that comes at a later scan. -/
theorem test_AlarmEntry_captured :
    let s := grouped .opened .clear
    let t := grouped { captured := true, captureScan := 7 } .clear
    s.evq.mask.getLsbD Kind.groupCapture.category.index = false ∧ (s.point 3).cfg.group = some 2 ∧
    (s.group 2).captured = false ∧ (s.point 3).cfg.alarmPattern = some 1 ∧ s.logsCapture 3 7 = true ∧
    t.logsCapture 3 7 = true ∧ t.logsCapture 3 8 = false ∧ s.evq.masked .alarm = false := by decide +kernel

theorem test_GroupRules_rearm_hypotheses :
    let s := grouped { captured := true, captureScan := 7 } .clear
    let t := grouped { captured := true, captureScan := 7 } (inState .alarmAck)
    s.resetLow = false ∧ s.ctl.state = .active ∧ (s.group s.gsel).captured = true ∧
    (∀ q : PointId, s.member 2 q = true → (s.point q).seq.state = .normal) ∧
    (t.member 2 3 = true ∧ (t.point 3).seq.state ≠ .normal) ∧
    ((grouped .opened .clear).group (grouped .opened .clear).gsel).captured = false := by decide +kernel

/-! ### Hypotheses met: actions, tests, buttons -/

/-- The guard met exactly, and missed by one ms. -/
def guarded (t : Clock) : State :=
  let s := at' (activeWith .r standing (inState .alarmUnack)) t
  { s with panel := { s.panel with agrd := 5 } }

theorem test_AckResult_hypotheses :
    (guarded 50).resetLow = false ∧ (guarded 50).ctl.state = .active ∧ (guarded 50).scopeDisabled = false ∧
    (guarded 50).inScope (guarded 50).panel.ascp 3 = true ∧ ((guarded 50).point 3).seq.state = .alarmUnack ∧
    (guarded 50).panel.agrd.toNat * 10 ≤ ((guarded 50).time.clock - ((guarded 50).point 3).seq.alarmTime).toNat ∧
    ¬(guarded 49).panel.agrd.toNat * 10 ≤ ((guarded 49).time.clock - ((guarded 49).point 3).seq.alarmTime).toNat ∧
    (guarded 50).evq.masked .action = false := by decide +kernel

theorem test_AckResult_transitions :
    let l := activeWith .l .clear (inState .alarmUnack)
    let m := activeWith .m .clear (inState .alarmUnack)
    let r := ringing (some 1) none .clear .alarmUnack
    ((l.point 3).seq.state = .alarmUnack ∧ l.panel.agrd.toNat * 10 ≤ (l.time.clock - (l.point 3).seq.alarmTime).toNat) ∧
    (l.point 3).qual.active = false ∧ (l.point 3).cfg.cls = .l ∧ (m.point 3).seq.state = .alarmUnack ∧
    (m.point 3).cfg.cls = .m ∧ (r.point 3).seq.state = .alarmUnack ∧ (r.point 3).cfg.cls = .r ∧
    (r.point 3).cfg.ringbackPattern = none ∧ (active.point 3).seq.state ≠ .alarmUnack := by decide +kernel

theorem test_AckResult_ringback :
    let s := ringing (some 1) (some 2) .clear .alarmUnack
    s.inScope s.panel.ascp 3 = true ∧ (s.point 3).seq.state = .alarmUnack ∧ s.guardMet 3 = true ∧
    (s.point 3).qual.active = false ∧ (s.point 3).cfg.cls = .r ∧ (s.point 3).cfg.ringbackPattern = some 2 ∧
    (∀ i : PatternId, (s.store.headers[i]).isSome = true) := by decide +kernel

theorem test_AckResult_refused :
    ({ active with panel := { active.panel with ascp := .point 4 } } : State).scopeDisabled = true := by decide +kernel

theorem test_SilenceResult_hypotheses :
    active.scopeDisabled = false ∧ (activeWith .r .clear (inState .returnUnack)).inScope .all 3 = true ∧
    ((activeWith .r .clear (inState .returnUnack)).point 3).seq.state = .returnUnack := by decide +kernel

theorem test_ResetResult_hypotheses :
    ((activeWith .m .clear (inState .alarmAck)).point 3).cfg.cls = .m ∧
    ((activeWith .m .clear (inState .alarmAck)).point 3).seq.state = .alarmAck ∧
    ((activeWith .m .clear (inState .alarmAck)).point 3).qual.active = false ∧
    (activeWith .m .clear (inState .alarmAck)).inScope .all 3 = true ∧
    ((activeWith .r .clear (inState .returnUnack)).point 3).cfg.cls = .r ∧
    ((activeWith .r .clear (inState .returnUnack)).point 3).seq.state = .returnUnack ∧
    (active.point 3).seq.state = .normal := by decide +kernel

theorem test_PanelTests_hypotheses :
    active.panel.test.state = .idle ∧ (testing .lampTest).panel.test.state = .lampTest ∧
    (testing .lampAndHornTest).panel.test.state = .lampAndHornTest ∧
    (at' (testing .lampTest) 3000).panel.test.panelParty = true ∧
    3000 ≤ ((at' (testing .lampTest) 3000).time.clock - (testing .lampTest).panel.test.press).toNat ∧
    60000 ≤ ((at' (testing .lampTest) 60000).time.clock - (testing .lampTest).panel.test.start).toNat ∧
    (testing .lampTest).evq.masked .testTimeout = false := by decide +kernel

/-- ACTIVE with a button sample due, the filters and the pins as given. -/
def sampling (s : State) (filter : ButtonFilter) (pins : BitVec 4) : State :=
  { s with
    panel := { s.panel with filters := Vector.replicate 4 filter, sampleDue := true }
    pins := { initialPins with buttons := pins } }

theorem test_ButtonSampleFilters_hypotheses :
    let s := sampling active { pressed := false, changes := 2 } 0xE
    s.resetLow = false ∧ s.panel.sampleDue = true ∧ (!s.pins.buttons.getLsbD (Button.ack.index)) = true ∧
    s.panel.filters[Button.ack.index].changes + 1 = 3 ∧ s.panel.plock.getLsbD (Button.ack.index) = false ∧
    (∀ i : Fin 4, i ≠ Button.ack.index → (!s.pins.buttons.getLsbD i) = s.panel.filters[i].pressed) := by decide +kernel

theorem test_ButtonSampleFilters_release :
    let s := sampling (testing .lampTest) { pressed := true, changes := 2 } 0x8
    s.panel.test.panelParty = true ∧ (!s.pins.buttons.getLsbD (Button.tst.index)) = false ∧
    (∀ i : Fin 4, i ≠ Button.tst.index → (!s.pins.buttons.getLsbD i) = s.panel.filters[i].pressed) := by decide +kernel

theorem test_ButtonSampleFilters_locked :
    let s := sampling { active with panel := { active.panel with plock := 1 } } { pressed := false, changes := 2 } 0xE
    s.resetLow = false ∧ s.panel.sampleDue = true ∧ s.ctl.state = .active ∧
    s.panel.plock.getLsbD (Button.ack.index) = true ∧ (!s.pins.buttons.getLsbD (Button.ack.index)) = true ∧
    s.panel.filters[Button.ack.index].changes + 1 = 3 := by decide +kernel

theorem test_ButtonSampleFilters_spent :
    let s := sampling active { pressed := true, changes := 2 } 0x8
    s.resetLow = false ∧ s.panel.sampleDue = true ∧ s.panel.test.panelParty = false ∧
    (!s.pins.buttons.getLsbD (Button.tst.index)) = false ∧ s.panel.filters[Button.tst.index].changes + 1 = 3 := by
  decide +kernel

theorem test_ButtonSampleFilters_tests :
    active.panel.test.state = .idle ∧ (testing .lampTest).panel.test.state ≠ .idle := by decide

/-! ### Hypotheses met: the cadence -/

/-- ACTIVE at the end of an eighth. -/
def eighthEnds (e : BitVec 3) (r : Role) : State :=
  timed active fun t => { t with eighth := e, intoEighth := 125, eighthLen := 125, role := r }

theorem test_CadenceEvents_hypotheses :
    (eighthEnds 6 .solo).resetLow = false ∧ (eighthEnds 6 .solo).ctl.state ≠ .init ∧
    (eighthEnds 6 .solo).time.eighthLen.toNat ≤ (eighthEnds 6 .solo).time.intoEighth ∧
    (eighthEnds 6 .solo).time.eighth ≠ 7 ∧ (eighthEnds 7 .leader).time.eighth = 7 ∧
    ¬((eighthEnds 7 .leader).time.role = .follower ∧ (eighthEnds 7 .leader).time.sync = .locked) ∧
    (timed active fun t => { t with role := .leader, lineLowUntil := some 0 }).time.lineLowUntil =
      some (timed active fun t => { t with role := .leader, lineLowUntil := some 0 }).time.clock := by decide +kernel

/-- Point 3 silenced in ALARM_UNACK with a reminder at every even cycle. -/
def reminding : State :=
  let x : Machine.Point :=
    { cfg := { config .l with reminder := some ⟨1, 0⟩ }
      qual := standing
      seq := { inState .alarmUnack with silenced := true } }
  { active with points := active.points.set 3 x }

theorem test_CadenceEvents_reminder_hypotheses :
    reminding.ctl.state = .active ∧ (reminding.point 3).cfg.alarmPattern = some 1 ∧
    (∀ q : PointId, reminding.remindable 2 q = true ↔ q = 3) ∧
    ∀ q : PointId, reminding.remindable 1 q = false := by decide +kernel

/-- Two points eligible at one cycle start. -/
theorem test_CadenceEvents_two_reminders :
    let s := { reminding with points := reminding.points.set 5 (reminding.point 3) }
    s.ctl.state = .active ∧ s.remindable 2 3 = true ∧ s.remindable 2 5 = true := by decide +kernel

/-- A FOLLOWER at the end of a low period. -/
def lowEnded (n : Nat) (y : Sync) : State :=
  timed active fun t => { t with role := .follower, sync := y, lowRun := .ended n }

theorem test_FollowerEvents_hypotheses :
    (lowEnded 3 .free).resetLow = false ∧ (lowEnded 3 .free).time.lowRun = .ended 3 ∧
    (lowEnded 4 .locked).time.lowRun = .ended 4 ∧ (lowEnded 20 .free).time.lowRun = .ended 20 ∧
    (lowEnded 21 .free).time.lowRun = .ended 21 ∧ (lowEnded 3 .free).time.role = .follower ∧
    (lowEnded 3 .free).time.sync = .free ∧ (lowEnded 4 .locked).time.sync = .locked := by decide

/-- A LOCKED follower whose eighth 7 has lasted three lengths. -/
def missing (misses : Nat) : State :=
  timed active fun t =>
    { t with role := .follower, sync := .locked, eighth := 7, intoEighth := 375, eighthLen := 125, misses := misses }

theorem test_FollowerEvents_miss_hypotheses :
    (missing 2).resetLow = false ∧ (missing 2).ctl.state ≠ .init ∧ (missing 2).time.role = .follower ∧
    (missing 2).time.sync = .locked ∧ (missing 2).time.eighth = 7 ∧
    3 * (missing 2).time.eighthLen.toNat ≤ (missing 2).time.intoEighth ∧ (missing 2).time.misses ≤ 2 ∧
    (missing 1).time.misses ≠ 2 := by decide

/-! ### Hypotheses met: registers -/

theorem test_SetupWrites_hypotheses :
    setup.resetLow = false ∧ setup.ctl.state = .setup ∧ active.ctl.state ≠ .setup ∧ (2#8).toNat = Role.follower.code ∧
    3 ≤ (3#8).toNat ∧ 256 ≤ (1#8 ++ 0#8 : BitVec 16).toNat ∧ (0#8 ++ 255#8 : BitVec 16).toNat < 256 ∧
    Within 50 250 (50#8).toNat ∧ Within 50 250 (250#8).toNat ∧ ¬Within 50 250 (49#8).toNat ∧
    ¬Within 50 250 (251#8).toNat ∧ (3#8).toNat = ScanPeriod.ms10.code ∧ 4 ≤ (4#8).toNat := by decide

theorem test_PointWindowWrites_hypotheses :
    (31#8).toNat = (31 : PointId).val ∧ 32 ≤ (32#8).toNat ∧ patternOfCode ((31#8).extractLsb' 0 6).toNat = some (some 31) ∧
    patternOfCode ((63#8).extractLsb' 0 6).toNat = some none ∧ patternOfCode ((32#8).extractLsb' 0 6).toNat = none ∧
    patternOfCode ((62#8).extractLsb' 0 6).toNat = none ∧
    reminderOfCodes ((0x3E#8).extractLsb' 0 3).toNat 63 = some (some ⟨6, 63⟩) ∧
    groupOfCode ((0x3E#8).extractLsb' 3 4).toNat = some (some 7) ∧
    reminderOfCodes ((0x79#8).extractLsb' 0 3).toNat 2 = none ∧ groupOfCode ((0x40#8).extractLsb' 3 4).toNat = none ∧
    groupOfCode ((0x78#8).extractLsb' 3 4).toNat = some none := by decide

theorem test_FreeRegisterWrites_hypotheses :
    (7#8).toNat = (7 : Fin 8).val ∧ 8 ≤ (8#8).toNat ∧ (67#8).toNat = (67 : Fin 68).val ∧ 68 ≤ (68#8).toNat ∧
    (3#8).toNat = (3 : Fin 4).val ∧ 4 ≤ (4#8).toNat ∧ (31#8).toNat = (31 : Fin 32).val ∧ 32 ≤ (32#8).toNat ∧
    Within 1 8 (8#8).toNat ∧ ¬Within 1 8 (9#8).toNat ∧ Within 2 14 (14#8).toNat ∧ ¬Within 2 14 (1#8).toNat ∧
    Within 1 3 (3#8).toNat ∧ ¬Within 1 3 (0#8).toNat ∧ Within 1 64 (64#8).toNat ∧ ¬Within 1 64 (65#8).toNat := by decide

theorem test_Ascp_hypotheses :
    (0x3F#8).extractLsb' 6 2 = 0 ∧ (0x47#8).extractLsb' 6 2 = 1 ∧ ((0x47#8).extractLsb' 0 5).toNat = (7 : GroupId).val ∧
    (0x9F#8).extractLsb' 6 2 = 2 ∧ ((0x9F#8).extractLsb' 0 5).toNat = (31 : PointId).val ∧
    (0xC0#8).extractLsb' 6 2 = 3 ∧ (0x48#8).extractLsb' 6 2 = 1 ∧ 8 ≤ ((0x48#8).extractLsb' 0 5).toNat := by decide

theorem test_XidHoldsItsByte_hypotheses :
    let s := { setup with xfer := { setup.xfer with xid := 32 } }
    s.resetLow = false ∧ s.ctl.state ≠ .init ∧ s.xfer.queue.length < 4 ∧ 32 ≤ s.xfer.xid.toNat := by decide

theorem test_AgrdIsTheGuard_hypotheses : setup.resetLow = false ∧ setup.panel.agrd = 0 := by decide

/-- An alarm of age 300 meets a guard of 30 units, and one of age 299 does not. -/
theorem test_AgrdIsTheGuard_boundaries :
    let s := at' (activeWith .l standing (inState .alarmUnack)) 300
    s.resetLow = false ∧ s.ctl.state = .active ∧ s.scopeDisabled = false ∧ s.panel.agrd = 0 ∧
    s.inScope s.panel.ascp 3 = true ∧ (s.point 3).seq.state = .alarmUnack ∧
    (30#8).toNat * 10 ≤ (s.time.clock - (s.point 3).seq.alarmTime).toNat ∧
    ((at' s 299).time.clock - (s.point 3).seq.alarmTime).toNat < (30#8).toNat * 10 := by decide +kernel

theorem test_AgrdIsTheGuard_fitting : ((activeWith .l standing (inState .alarmUnack)).point 3).StateFits := by
  have h : (activeWith .l standing (inState .alarmUnack)).point 3 =
      { cfg := config .l, qual := standing, seq := inState .alarmUnack } := by decide +kernel
  rw [h]
  trivial

theorem test_AgrdIsTheGuard_passed_over :
    ({ active with panel := { active.panel with agrd := 1 } }).guardMet 3 = false := by decide +kernel

theorem test_CommandRegisters_hypotheses :
    ¬Within 1 5 (0#8).toNat ∧ ¬Within 1 5 (6#8).toNat ∧ ¬Within 1 2 (3#8).toNat ∧ (2#8) ≠ 1 ∧ ¬Within 1 4 (5#8).toNat ∧
    (0xFC#8) &&& 3 = 0 ∧ setup.resetLow = false ∧ (0xFD#8).getLsbD 1 = false ∧ (0xFD#8).getLsbD 0 = true ∧
    (0xFE#8).getLsbD 1 = true := by decide

theorem test_CommandRegisters_unassigned :
    Within 0x2E 0x2F (0x2E#7).toNat ∧ Within 0x2E 0x2F (0x2F#7).toNat ∧ Within 0x40 0x47 (0x40#7).toNat ∧
    Within 0x40 0x47 (0x47#7).toNat ∧ Within 0x70 0x7F (0x70#7).toNat ∧ Within 0x70 0x7F (0x7F#7).toNat := by decide

theorem test_HoldByteReads_hypotheses :
    setup.resetLow = false ∧ (setup.holdOf .vst2).follows = false ∧
    ({ setup with holds := setup.holds.set 13 { value := 9, follows := true } }.holdOf .vst2).follows = true := by
  decide

/-! ### Hypotheses met: transfers -/

/-- SETUP with a draft that begins with the given bytes. -/
def drafted (d : List (BitVec 8)) (xid : BitVec 8) : State :=
  { setup with xfer := { setup.xfer with draft := Vector.ofFn fun i => d.getD i 0, xid := xid } }

theorem test_TransferRequests_hypotheses :
    let d := (drafted [1, 15, 1, 255, 16, 1] 31).xfer.draft
    setup.resetLow = false ∧ setup.ctl.state ≠ .init ∧ setup.xfer.queue.length < 4 ∧ d.valid = true ∧ d[1].toNat ≤ 15 ∧
    Within 1 32 d[2].toNat ∧ d[3].toNat + d[2].toNat ≤ 256 ∧ (∀ i : Fin 1, d.stepLegal i = true) ∧
    (31#8).toNat = (31 : PatternId).val := by decide +kernel

theorem test_TransferRequests_refusals :
    let d := (drafted [1, 16, 33, 255, 17, 1] 32).xfer.draft
    ¬d[1].toNat ≤ 15 ∧ ¬Within 1 32 d[2].toNat ∧ ¬Within 1 32 (0#8).toNat ∧ ¬d[3].toNat + 2 ≤ 256 ∧
    d.stepLegal 0 = false ∧ 32 ≤ (32#8).toNat := by decide +kernel

/-- The last step image, and the two kinds of tone code. -/
theorem test_TransferRequests_images :
    let d : Image := Vector.ofFn fun i => if i = 66 then 0xEF else if i = 4 then 0x10 else if i = 0 then 15 else 0
    (d[(66 : Fin 68)].extractLsb' 0 5).toNat = (15 : Fin 16).val ∧ (d[(4 : Fin 68)].extractLsb' 0 5).toNat = 16 ∧
    d[(0 : Fin 68)].getLsbD 0 = true ∧ d[(0 : Fin 68)].getLsbD 1 = true := by decide +kernel

theorem nothingDue_waiting (t : Transfer) (n : Nat) : (waiting t n).NothingDue := by
  refine ⟨?_, ?_, ?_, ?_, ?_, ?_, ?_, ?_, trivial, ?_, rfl, ?_, ?_⟩
  all_goals first
    | exact nothingDue_active.1
    | exact nothingDue_active.2.1
    | exact nothingDue_active.2.2.1
    | exact nothingDue_active.2.2.2.1
    | exact nothingDue_active.2.2.2.2.1
    | exact nothingDue_active.2.2.2.2.2.1
    | exact nothingDue_active.2.2.2.2.2.2.1
    | exact nothingDue_active.2.2.2.2.2.2.2.1
    | exact nothingDue_active.2.2.2.2.2.2.2.2.2.1
    | exact nothingDue_active.2.2.2.2.2.2.2.2.2.2.2.1

theorem test_EngineAccesses_hypotheses :
    let s := waiting (.commitSteps 0 [aStep, aStep]) 0
    s.resetLow = false ∧ s.takeDue = s ∧ s.ctl.state ≠ .init ∧
    s.xfer.queue = [{ id := 1, transfer := .commitSteps 0 [aStep, aStep], progress := some 0 }] ∧
    0 + 1 < [aStep, aStep].length :=
  ⟨by decide, State.takeDue_of_nothingDue (nothingDue_waiting _ _), by decide, rfl, by decide⟩

theorem test_EngineAccesses_clauses :
    (waiting (.fetch none) 0).takeDue = waiting (.fetch none) 0 ∧
    (waiting (.fetch none) 0).store.headers[(1 : PatternId)] = some oneStep ∧ 1 ≤ oneStep.count ∧
    (waiting (.commitBoth none 0 [aStep]) 0).takeDue = waiting (.commitBoth none 0 [aStep]) 0 ∧ 0 < [aStep].length :=
  ⟨State.takeDue_of_nothingDue (nothingDue_waiting _ _), by decide +kernel, by decide,
    State.takeDue_of_nothingDue (nothingDue_waiting _ _), by decide⟩

theorem test_EngineAccesses_last :
    (waiting (.commitHeader none) 0).takeDue = waiting (.commitHeader none) 0 ∧
    (waiting (.commitSteps 0 [aStep]) 0).takeDue = waiting (.commitSteps 0 [aStep]) 0 ∧ [aStep].length ≤ 0 + 1 ∧
    (waiting (.commitBoth none 0 [aStep]) 1).takeDue = waiting (.commitBoth none 0 [aStep]) 1 ∧ [aStep].length ≤ 1 ∧
    (waiting (.fetch (some (some oneStep, []))) 1).takeDue = waiting (.fetch (some (some oneStep, []))) 1 ∧
    oneStep.count ≤ 1 ∧ setup.store.headers[(1 : PatternId)] = none :=
  ⟨State.takeDue_of_nothingDue (nothingDue_waiting _ _), State.takeDue_of_nothingDue (nothingDue_waiting _ _), by decide,
    State.takeDue_of_nothingDue (nothingDue_waiting _ _), by decide,
    State.takeDue_of_nothingDue (nothingDue_waiting _ _), by decide, by decide +kernel⟩

/-- An access that a late tick has left: it is all that is due, and after it nothing is. -/
theorem test_EngineAccesses_late :
    let s := queued (.commitSteps 0 [aStep, aStep]) 0
    s.resetLow = false ∧ s.xfer.accessDue = true ∧ 0 + 1 < [aStep, aStep].length ∧
    s.takeDue = s.lateAccess ∧ s.lateAccess.takeDue = s.lateAccess := by
  refine ⟨by decide, by decide, by decide, State.takeDue_of_noEventDue ?_, State.takeDue_of_nothingDue ?_⟩
  · refine ⟨?_, ?_, ?_, ?_, ?_, ?_, ?_, ?_, trivial, ?_, ?_, ?_, ?_⟩ <;> decide +kernel
  · refine ⟨?_, ?_, ?_, ?_, ?_, ?_, ?_, ?_, trivial, ?_, ?_, ?_, ?_⟩ <;> decide +kernel

theorem test_TransferCompletions_hypotheses :
    (queued (.commitHeader none) 0).resetLow = false ∧ (queued (.commitHeader none) 0).xfer.accessDue = true ∧
    (queued (.commitSteps 0 [aStep]) 0).xfer.queue =
      [{ id := 1, transfer := .commitSteps 0 [aStep], progress := some 0 }] ∧ 0 + 1 = [aStep].length ∧
    (queued (.fetch (some (some oneStep, []))) 1).xfer.queue =
      [{ id := 1, transfer := .fetch (some (some oneStep, [])), progress := some 1 }] ∧ 1 = oneStep.count := by
  decide +kernel

/-- The image of 32 steps is full to its last byte. -/
theorem test_TransferCompletions_image :
    (List.replicate 32 aStep)[(31 : Fin 32).val]? = some aStep ∧
    (imageOf (some oneStep) (List.replicate 32 aStep))[(67 : Fin 68)] = 1 ∧
    4 + 2 * [aStep].length ≤ (6 : Fin 68).val := by decide +kernel

theorem test_TransferCompletions_empty_header :
    ({ queued (.fetch none) 0 with store := setup.store }).store.headers[(1 : PatternId)] = none := by decide +kernel

theorem test_DataRegisters_hypotheses : setup.resetLow = false := by decide

/-! ### Hypotheses met: sounds, supply, events -/

theorem test_RankingKeys_hypotheses :
    let c : Request := { alarmRequest with source := .chime, kind := .chime, rule := .once, priority := some 3 }
    alarmRequest.kind ≠ .horntest ∧ c.kind ≠ .horntest ∧ alarmRequest.priority = some 0 ∧ c.priority = some 3 ∧
    alarmRequest.sound ≠ c.sound ∧
    ({ alarmRequest with kind := .horntest } : Request).kind = .horntest := by decide

/-- A sound with two requests stands at the better of them, and of equal requests the older is the better. -/
theorem test_RankingKeys_three :
    let r (p : PointId) (t : PatternId) (k : Fin 4) : Request :=
      { alarmRequest with source := .point p, pattern := t, priority := some k }
    rankedSounds [r 1 1 0, r 2 2 1, r 3 3 1, r 4 1 2] = [(r 4 1 2).sound, (r 2 2 1).sound, (r 3 3 1).sound] := by
  decide +kernel

theorem test_ChimeCommands_hypotheses :
    active.resetLow = false ∧ active.ctl.state = .active ∧
    (∀ p : PatternId, (active.store.headers[p]).isSome = true) ∧ active.holdsRequest .chime = false ∧
    (sounding (playing none 5)).holdsRequest (.point 3) = true := by decide +kernel

theorem test_VoiceCount_hypotheses :
    Within 1 4 (4#8).toNat ∧ ¬Within 1 4 (5#8).toNat ∧ ¬Within 1 4 (0#8).toNat ∧ active.resetLow = false ∧
    { active with tones := { active.tones with vcnt := 4 } }.voiceLimit = active.voiceLimit ∧
    { active with tones := { active.tones with vcnt := 1 } }.voiceLimit ≠ active.voiceLimit := by decide

/-- A sound that waits beside one that plays, and with every voice IDLE. -/
theorem test_VoiceCount_occasion :
    let c : Request :=
      { source := .chime, kind := .chime, pattern := 2, rule := .once, priority := some 0, arrival := 1 }
    let s := { sounding (playing none 5) with
      tones := { active.tones with requests := [alarmRequest, c], arrival := 2 } }
    let i := { s with voices := active.voices }
    (∀ p : PatternId, (s.store.headers[p]).isSome = true) ∧ s.playingSounds.Nodup ∧ s.voiceLimit ≤ 4 ∧
    c.sound ∈ s.entitled ∧ c.sound ∉ s.playingSounds ∧ (∀ y ∈ s.entitled, y ≠ c.sound → y ∈ s.playingSounds) ∧
    s.voices[(1 : VoiceId)] = none ∧ s.voices[(0 : VoiceId)] = some (playing none 5) ∧
    (playing none 5).sound ∈ s.entitled ∧ ∀ v : VoiceId, i.voices[v] = none := by decide +kernel

/-- The one entitled sound that waits finds its header empty. -/
theorem test_VoiceCount_missing :
    let s := { sounding (playing none 5) with
      voices := active.voices
      store := setup.store }
    s.playingSounds.Nodup ∧ s.voiceLimit ≤ 4 ∧ alarmRequest.sound ∈ s.entitled ∧
    alarmRequest.sound ∉ s.playingSounds ∧
    (∀ y ∈ s.entitled, y ≠ alarmRequest.sound → y ∈ s.playingSounds) ∧
    s.store.headers[alarmRequest.sound.pattern] = none := by decide +kernel

theorem test_VoiceSteps_hypotheses :
    (sounding (playing (some 1) 0)).resetLow = false ∧
    (sounding (playing (some 1) 0)).voices[(0 : VoiceId)] = some (playing (some 1) 0) ∧
    (sounding (playing (some 1) 0)).store.headers[(playing (some 1) 0).sound.pattern] = some oneStep ∧
    oneStep.count ≤ (playing (some 1) 0).stepIndex + 1 ∧ (playing none 0).passes = none ∧
    (playing (some 2) 0).passes = some (0 + 2) ∧ (playing none 0).remaining = 0 := by decide +kernel

theorem test_VoiceSteps_changed_repeat :
    let read : ValidHeader := { oneStep with rep := .count 3 }
    let s := sounding (playing (some 1) 0)
    { s with store := { s.store with headers := Vector.replicate 32 (some read) } }.store.headers[
      (playing (some 1) 0).sound.pattern] = some read ∧
    (playing (some 1) 0).sound.rule = .header ∧ read.rep ≠ (playing (some 1) 0).held.rep := by decide +kernel

theorem test_VoiceSteps_missing :
    ({ sounding (playing (some 1) 0) with store := setup.store }).store.headers[
      (playing (some 1) 0).sound.pattern] = none := by decide +kernel

theorem test_VoiceSteps_decay :
    let x := { playing none 10 with held := { oneStep with envelope := .decay .ms50 }, envCount := 50 }
    x.held.envelope = .decay .ms50 ∧ Interval.ms50.ms ≤ x.envCount ∧ x.remaining ≠ 0 := by decide

theorem test_SupplySampling_hypotheses :
    let s := supplied setup fun u => { u with sampleDue := true, count1 := 2, count2 := 2 }
    s.resetLow = false ∧ s.supply.sampleDue = true ∧ s.pins.vdrv.toNat ≤ 1 ∧
    s.pins.vdrv.toNat ≤ s.supply.ecolv.toNat := by decide

theorem test_SupplySampling_entitled :
    let s := supplied (sounding (playing none 5)) fun u => { u with sampleDue := true, count2 := 2 }
    s.EntitledPlay ∧ s.pins.vdrv.toNat ≤ 1 := by
  intro s
  have h1 : s.playingSounds = [alarmRequest.sound] := by decide +kernel
  have h2 : s.entitled = [alarmRequest.sound] := by decide +kernel
  exact ⟨⟨by decide, by rw [h1]; decide, fun x => by rw [h1, h2]⟩, by decide⟩

/-- The third sample of a level that leads to ECONOMY, and to OK from there. -/
theorem test_SupplySampling_economy :
    let s := supplied { setup with pins := { setup.pins with vdrv := 6 } } fun u => { u with sampleDue := true, count1 := 2 }
    let r := supplied { setup with pins := { setup.pins with vdrv := 8 } } fun u =>
      { u with sampleDue := true, count1 := 2, state := .economy }
    s.resetLow = false ∧ s.supply.sampleDue = true ∧ s.supply.state = .ok ∧
    s.pins.vdrv.toNat ≤ s.supply.ecolv.toNat ∧ ¬s.pins.vdrv.toNat ≤ 1 ∧ s.supply.count1 + 1 = 3 ∧
    r.supply.state = .economy ∧ r.supply.ecolv.toNat + r.supply.echys.toNat ≤ r.pins.vdrv.toNat ∧
    ¬r.pins.vdrv.toNat ≤ 1 ∧ r.supply.count1 + 1 = 3 := by decide

theorem test_RecordInsertion_hypotheses :
    setup.evq.mask.getLsbD Kind.alarm.category.index = false ∧
    ({ setup.evq with mask := 1 } : EventQueue).mask.getLsbD Kind.alarm.category.index = true := by decide

theorem test_EventReads_hypotheses :
    setup.resetLow = false ∧ setup.evq.records = [] ∧ setup.evq.latch = none ∧
    recorded.evq.records = [{ kind := .refusal, seq := 0, time := 0, point := none, source := 0, detail := 1 }] ∧
    recorded.evq.latch = some { kind := .refusal, seq := 0, time := 0, point := none, source := 0, detail := 1 } := by
  decide

theorem test_InterruptRules_hypotheses :
    let u : Irq := { Irq.reset with flags := 0x4001, enables := 0x7FFF, levelPoint := 2, levelFault := 2 }
    u.vector = Cause.refused.code ∧ u.asserted .alarm = true := by decide +kernel

/-! ### Hypotheses met: the invariants, at states other than that of reset -/

theorem test_StepKeepsEvents_hypotheses :
    let s := given recorded .start
    s.EventsKept ∧ ∃ t, step s = .next t := by
  exact ⟨eventsKept_recorded, _, rfl⟩

theorem test_StepKeepsRanges_hypotheses :
    let s := given active .ack
    s.RangesKept ∧ ∃ t, step s = .next t := by
  have shelf : ∀ p : PointId, ((given active .ack).point p).seq.shelf = .none := by decide +kernel
  refine ⟨⟨by decide, by decide, by decide, by decide, by decide, by decide, by decide, by decide, by decide, by decide,
    by decide, by decide, by decide, by decide, ?_, fun p => ?_⟩, _, rfl⟩
  · unfold Reminder.Legal
    decide +kernel
  · rw [shelf p]
    trivial

theorem test_shelf_range_boundaries : (Shelf.finite 65535 0).Legal ∧ ¬(Shelf.finite 0 1000).Legal := by
  simp [Shelf.Legal]

/-- A pattern store whose table and whose transfer queue are legal. -/
theorem storeLegal_waiting : (given (waiting (.commitSteps 0 [aStep]) 0) .fetch).StoreLegal := by
  have header : HeaderLegal (some oneStep) := by
    intro v hv
    obtain rfl : oneStep = v := by simpa using hv
    exact ⟨by decide, by decide, trivial⟩
  have stepLegal : aStep.Legal := by unfold Machine.Step.Legal; decide
  refine ⟨fun p => ?_, fun n => ?_, by decide, ?_⟩
  · simpa [given, waiting, active, activeWith, Store.header] using header
  · simpa [given, waiting, active, activeWith, setup, Store.reset] using (show Machine.Step.initial.Legal from stepLegal)
  · intro e he
    obtain rfl : e = { id := 1, transfer := .commitSteps 0 [aStep], progress := some 0 } := by
      simpa [given, waiting] using he
    refine ⟨by decide, fun t ht => ?_⟩
    obtain rfl : t = aStep := by simpa using ht
    exact stepLegal

theorem test_StepKeepsStoreLegal_hypotheses :
    let s := given (waiting (.commitSteps 0 [aStep]) 0) .fetch
    s.StoreLegal ∧ s.VoicesInRange ∧ ∃ t, step s = .next t := by
  refine ⟨storeLegal_waiting, ?_, _, rfl⟩
  intro v p hp
  simp [given, waiting, active, activeWith, setup, State.reset] at hp

theorem test_StepKeepsRequests_hypotheses :
    let s := given (sounding (playing none 5)) .silence
    s.RequestsKept ∧ ∃ t, step s = .next t := by
  refine ⟨⟨by decide, ?_⟩, _, rfl⟩
  intro r hr
  obtain rfl : r = alarmRequest := by simpa [given, sounding] using hr
  exact ⟨rfl, rfl⟩

theorem test_StepKeepsVoices_hypotheses :
    let s := given (sounding (playing none 5)) .silence
    s.EntitledPlay ∧ ∃ t, step s = .next t := by
  refine ⟨⟨by decide, by decide +kernel, ?_⟩, _, rfl⟩
  have h1 : (given (sounding (playing none 5)) .silence).playingSounds = [alarmRequest.sound] := by decide +kernel
  have h2 : (given (sounding (playing none 5)) .silence).entitled = [alarmRequest.sound] := by decide +kernel
  intro x
  rw [h1, h2]

theorem runKept_setup : (given setup .start).RunKept := by
  refine ⟨?_, ?_, ?_, ?_, ?_, ?_, ?_, ?_, ?_, ?_⟩ <;> decide +kernel

theorem test_StepKeepsRun_hypotheses : (given setup .start).RunKept ∧ ∃ t, step (given setup .start) = .next t :=
  ⟨runKept_setup, _, rfl⟩

theorem test_StepKeepsQualification_hypotheses :
    (given setup .start).RunKept ∧ (given setup .start).QualKept ∧ ∃ t, step (given setup .start) = .next t := by
  refine ⟨runKept_setup, fun p => ⟨?_, ?_, ?_⟩, _, rfl⟩
  · simp [given, setup, State.reset, State.point, Machine.Point.reset]
  · simp [given, setup, State.reset, State.point, Machine.Point.reset, Qual.clear, PointConfig.debounce]
  · simp [given, setup, State.reset, State.point, Machine.Point.reset, Qual.clear, Qual.TimerFits]

theorem test_StepKeepsSequences_hypotheses :
    (given setup .start).RunKept ∧ (given setup .start).SequencesKept ∧ (given setup .start).MarksKept ∧
    ∃ t, step (given setup .start) = .next t := by
  refine ⟨runKept_setup, fun p => ⟨?_, ?_, ?_, ?_, ?_⟩, ⟨fun p => ?_, fun g => ?_⟩, _, rfl⟩
  · simp [given, setup, State.reset, State.point, Machine.Point.reset]
  · simp [given, setup, State.reset, State.point, Machine.Point.reset, Seq.clear]
  · simp [given, setup, State.reset, State.point, Machine.Point.reset, Seq.clear]
  · simp [given, setup, State.reset, State.point, Machine.Point.reset, Seq.clear, Machine.Point.StateFits]
  · simp [given, setup, State.reset, Tones.reset]
  · simp [given, setup, State.reset, State.point, Machine.Point.reset, Seq.clear]
  · simp [given, setup, State.reset, State.group, Group.opened]

theorem test_StepKeepsSync_hypotheses :
    let s := given (timed setup fun t => { t with role := .leader, lineLowUntil := some 6 }) (.sroleWrite 0)
    s.SyncKept ∧ ∃ t, step s = .next t := by
  refine ⟨⟨by decide, by decide, ?_, by decide⟩, _, rfl⟩
  rintro n (h | h) <;> cases h

/-! ### Single steps -/

/-- The state a command leaves. -/
def after (c : Instr) (s : State) : State :=
  match exec c s with
  | .next t => t
  | _ => s

theorem test_alarm_sounds_and_lights :
    (after (.scan []) (scanning .l .clear .clear 0)).playingSounds = [{ pattern := 1, rule := .header }] ∧
    ((after (.scan []) (scanning .l .clear .clear 0)).point 3).indication = .fast ∧
    (after (.scan []) (scanning .l .clear .clear 0)).irq.flag .alarm = true := by decide +kernel

theorem test_ack_steadies_the_lamp :
    ((after .ack (activeWith .l standing (inState .alarmUnack))).point 3).indication = .steady := by decide +kernel

theorem test_silence_ends_the_sound :
    (after .silence (sounding (playing none 5))).playingSounds = [] ∧
    ((after .silence (sounding (playing none 5))).point 3).seq.silenced = true := by decide +kernel

theorem test_first_alarm_of_a_group_is_first_out :
    ((after (.scan []) { scanning .l .clear .clear 0 with
        points := active.points.set 3 { cfg := { config .l with group := some 2 }, qual := .clear, seq := .clear }
      }).point 3).seq.mark = .first := by decide +kernel

theorem test_completed_sound_gives_tone_done :
    ((after (.stepBoundary 0) (sounding (playing (some 1) 0))).point 3).seq.toneDone = true ∧
    (after (.stepBoundary 0) (sounding (playing (some 1) 0))).tones.requests = [] := by decide +kernel

theorem test_third_miss_frees_the_follower :
    (after .miss (missing 2)).time.sync = .free ∧ (after .miss (missing 2)).irq.flag .sync = true := by decide +kernel

theorem test_marker_of_the_leader_lasts_six_ms :
    (after .eighthEnd (timed (eighthEnds 7 .leader) fun t => { t with cycle := 63 })).time.lineLowUntil = some 6 := by
  decide +kernel

/-- Voices 0 and 1 serve the two requests of the list in order of rank. -/
theorem test_resume_starts_sounds_in_rank_order :
    let c : Request :=
      { source := .chime, kind := .chime, pattern := 2, rule := .once, priority := some 3, arrival := 1 }
    (after .resume { hold with tones := { hold.tones with requests := [alarmRequest, c], arrival := 2 } }).playingSounds =
      [c.sound, alarmRequest.sound] := by decide +kernel

/-- R54, log 29: an alarm whose pattern is missing, in a group it captures. -/
theorem test_missing_pattern_follows_the_alarm_record :
    ((after (.scan []) { scanning .l .clear .clear 0 with
        store := setup.store
        points := active.points.set 3 { cfg := { config .l with group := some 2 }, qual := .clear, seq := .clear }
      }).evq.records.map Record.kind) = [.groupCapture, .alarm, .patternMissing] := by decide +kernel

theorem test_refusal_record :
    (after .hold setup).ctl.refAddr = 0 ∧ (after .hold setup).ctl.refReason = .wrongState ∧
    (after .hold setup).evq.records.length = 1 := by decide +kernel

theorem test_third_low_sample_changes_the_supply :
    (after .supplySample (supplied setup fun u => { u with sampleDue := true, count2 := 2 })).supply.state = .blackout := by
  decide +kernel

theorem test_shelved_point_is_dark :
    ((after .shelve (selected (activeWith .l standing (inState .alarmUnack)))).point 3).indication = .off := by
  decide +kernel

theorem test_fetched_image :
    (after .fetchCompletion (queued (.fetch (some (some oneStep, []))) 1)).xfer.image[(0 : Fin 68)] = 1 ∧
    (after .fetchCompletion (queued (.fetch (some (some oneStep, []))) 1)).irq.flag .rbrdy = true := by decide +kernel

theorem test_dradr_wraps :
    (after (.drdatAccess .read) { setup with xfer := { setup.xfer with dradr := 67 } }).xfer.dradr = 0 := by
  decide +kernel

end Sys2Proof.Tests
end

section
/-! PROOFS. The cadence: what a command outside chapter 5 leaves of the Timebase, what every event of a tick keeps
of it, and with them the synchronisation invariant and the run clock. -/

namespace Sys2Proof.Machine.Cadence

/-! ### The Timebase's part of the invariant -/

/-- The part of `State.SyncKept` that speaks of the Timebase alone: CSYNC is a LEADER's, the lock and the low periods
are a FOLLOWER's (R96 to R99). -/
def SyncFits (t : Timebase) : Prop :=
  (t.lineLowUntil.isSome → t.role = .leader) ∧ (t.sync = .locked → t.role = .follower) ∧
  ∀ n, t.lowRun = .counting n ∨ t.lowRun = .ended n → t.role = .follower

/-- The cadence stands at its start, in the role SOLO (R92, R96). -/
def AtStart (t : Timebase) : Prop := t.role = .solo ∧ t.eighth = 0 ∧ t.intoEighth = 0 ∧ t.cycle = 0

theorem syncKept_iff (s : State) :
    s.SyncKept ↔ SyncFits s.time ∧ (s.ctl.state = .init → AtStart s.time) := by
  simp only [State.SyncKept, SyncFits, AtStart, and_assoc]

theorem syncFits_of_syncKept {s : State} (h : s.SyncKept) : SyncFits s.time := ((syncKept_iff s).mp h).1

/-- Outside INIT the Timebase's part is the whole of the invariant. -/
theorem syncKept_of_running {s : State} (run : s.ctl.state ≠ .init) (h : SyncFits s.time) : s.SyncKept :=
  (syncKept_iff s).mpr ⟨h, fun e => absurd e run⟩

/-- A FOLLOWER is not in INIT, where the role is SOLO (R96). -/
theorem running_of_follower {s : State} (h : s.SyncKept) (follows : s.time.role = .follower) :
    s.ctl.state ≠ .init := by
  obtain ⟨-, start⟩ := (syncKept_iff s).mp h
  intro e
  have solo : s.time.role = .solo := (start e).1
  simp [follows] at solo

/-! ### Changes outside the Timebase -/

/-- The Timebase stands as it stood, and INIT is not entered. -/
def SparesTimebase (s t : State) : Prop := t.time = s.time ∧ (t.ctl.state = .init → s.ctl.state = .init)

theorem SparesTimebase.refl (s : State) : SparesTimebase s s := ⟨rfl, id⟩

theorem SparesTimebase.trans {s t u : State} (h : SparesTimebase s t) (k : SparesTimebase t u) :
    SparesTimebase s u := ⟨k.1.trans h.1, h.2 ∘ k.2⟩

theorem SparesTimebase.foldl {α : Type} {f : State → α → State} (h : ∀ s a, SparesTimebase s (f s a)) (l : List α) :
    ∀ s, SparesTimebase s (l.foldl f s) := by
  induction l with
  | nil => exact .refl
  | cons a l ih => exact fun s => (h s a).trans (ih (f s a))

theorem SparesTimebase.ite {s t u : State} {c : Prop} [Decidable c] (h : SparesTimebase s t)
    (k : SparesTimebase s u) : SparesTimebase s (if c then t else u) := by
  split
  · exact h
  · exact k

theorem frame_time_ctl {s t : State} (h : AnnunciationOnly s t) : t.time = s.time ∧ t.ctl = s.ctl := by
  obtain ⟨⟨-, -, -, -, hctl, htime, -⟩, -⟩ := (annunciationOnly_iff s t).mp h
  exact ⟨htime, hctl⟩

/-- The annunciation of points has no part in the Timebase. -/
theorem SparesTimebase.of_frame {s t : State} (h : AnnunciationOnly s t) : SparesTimebase s t := by
  obtain ⟨htime, hctl⟩ := frame_time_ctl h
  exact ⟨htime, fun e => by rwa [hctl] at e⟩

theorem SparesTimebase.syncKept {s t : State} (h : SparesTimebase s t) (k : s.SyncKept) : t.SyncKept := by
  rw [syncKept_iff] at k ⊢
  obtain ⟨fits, start⟩ := k
  rw [h.1]
  exact ⟨fits, start ∘ h.2⟩

/-! ### Refusals, reads and the Interrupt Unit -/

theorem refuse_spares (s : State) (r : Reg) (why : Reason) : SparesTimebase s (s.refuse r why) := ⟨rfl, id⟩

theorem refuseCommand_spares (s : State) (r : Reg) (why : Reason) : SparesTimebase s (s.refuseCommand r why) :=
  ⟨rfl, id⟩

theorem setCause_spares (s : State) (c : Cause) : SparesTimebase s (s.setCause c) := ⟨rfl, id⟩

theorem controllerRecord_spares (s : State) (left : CtlState) (why : CtlReason) :
    SparesTimebase s (s.controllerRecord left why) := ⟨rfl, id⟩

theorem readFirst_spares (r : Reg) (ps : List Partner) (s : State) : SparesTimebase s (readFirst r ps s) := ⟨rfl, id⟩

theorem readPartner_spares (b : Partner) (s : State) : SparesTimebase s (readPartner b s) := ⟨rfl, id⟩

theorem readEv0_spares (s : State) : SparesTimebase s (readEv0 s) := by
  unfold readEv0
  split <;> exact ⟨rfl, id⟩

theorem readEv9_spares (s : State) : SparesTimebase s (readEv9 s) := by
  unfold readEv9
  split <;> exact ⟨rfl, id⟩

theorem flushCommand_spares (s : State) : SparesTimebase s (flushCommand s) := ⟨rfl, id⟩

theorem writeIcs_spares (h : WhichByte) (v : Byte) (s : State) : SparesTimebase s (writeIcs h v s) := ⟨rfl, id⟩

/-! ### Scans, shelves and the point window -/

theorem takeScan_spares (s : State) : SparesTimebase s s.takeScan := ⟨rfl, id⟩

theorem scanStep_spares (order : List PointId) (s : State) : SparesTimebase s (scanStep order s) := by
  have handed : SparesTimebase s ((inOrder order allPoints).foldl (fun t p => t.handOn p (s.scanOf p).2) s.takeScan) :=
    (takeScan_spares s).trans (SparesTimebase.foldl (fun t p => .of_frame (t.handOn_frame p _)) _ _)
  exact .ite (.ite handed (takeScan_spares s)) (.refl s)

theorem settlePoint_spares (s : State) (p : PointId) : SparesTimebase s (s.settlePoint p) :=
  .ite (.ite ⟨rfl, id⟩ (.of_frame (s.applyAlarm_frame p _))) (.refl s)

theorem enterActive_spares (s : State) : SparesTimebase s s.enterActive := by
  have entered : SparesTimebase s { s with ctl := { s.ctl with state := .active, settleStart := none } } :=
    ⟨rfl, nofun⟩
  exact (entered.trans (controllerRecord_spares _ _ _)).trans (.of_frame (State.allocateIfLimitChanged_frame _ _))

theorem settleEndStep_spares (s : State) : SparesTimebase s (settleEndStep s) :=
  .ite (((takeScan_spares s).trans (SparesTimebase.foldl settlePoint_spares _ _)).trans (enterActive_spares _))
    (.refl s)

theorem unshelveAlarm_spares (s : State) (p : PointId) : SparesTimebase s (s.unshelveAlarm p) :=
  .ite (.of_frame (s.applyAlarm_frame p _)) (.refl s)

theorem shelfExpiryStep_spares (p : PointId) (s : State) : SparesTimebase s (shelfExpiryStep p s) := by
  have expired : SparesTimebase s (((s.unshelve p).setCause .shelfexp).unshelveRecord p true) := ⟨rfl, id⟩
  exact .ite (expired.trans (unshelveAlarm_spares _ p)) (.refl s)

theorem expireShelves_spares (s : State) : SparesTimebase s s.expireShelves :=
  SparesTimebase.foldl (fun t p => shelfExpiryStep_spares p t) _ s

theorem pointCommand_spares {f : State → State} (hf : ∀ s, SparesTimebase s (f s)) (s : State) :
    SparesTimebase s (s.pointCommand f) :=
  .ite (refuseCommand_spares s _ _) (.ite (refuseCommand_spares s _ _) (hf s))

theorem shelveCommand_spares (s : State) : SparesTimebase s (shelveCommand s) := by
  refine pointCommand_spares (fun t => ?_) s
  have restarted : SparesTimebase t (t.restartShelf t.window.psel) := ⟨rfl, id⟩
  exact .ite (.of_frame (t.shelvePoint_frame _)) restarted

theorem unshelveCommand_spares (s : State) : SparesTimebase s (unshelveCommand s) := by
  refine pointCommand_spares (fun t => ?_) s
  have recorded : SparesTimebase t ((t.unshelve t.window.psel).unshelveRecord t.window.psel false) := ⟨rfl, id⟩
  exact .ite (.refl t) (recorded.trans (unshelveAlarm_spares _ _))

theorem rearmCommand_spares (s : State) : SparesTimebase s (rearmCommand s) :=
  .ite (refuseCommand_spares s _ _) (.ite (.of_frame (s.rearm_frame _ _ _)) ⟨rfl, id⟩)

theorem writePsel_spares (v : Byte) (s : State) : SparesTimebase s (writePsel v s) := by
  unfold writePsel
  split <;> exact ⟨rfl, id⟩

theorem writePcf_spares (i : Fin 9) (v : Byte) (s : State) : SparesTimebase s (writePcf i v s) := by
  have written : SparesTimebase s (s.writePcfByte i v) := by
    unfold State.writePcfByte
    dsimp only
    split <;> (try split) <;> exact ⟨rfl, id⟩
  exact .ite written (refuse_spares s _ _)

theorem writeShdur_spares (h : WhichByte) (v : Byte) (s : State) : SparesTimebase s (writeShdur h v s) := by
  cases h <;> exact ⟨rfl, id⟩

/-! ### Actions, tests and buttons -/

theorem testStart_spares (s : State) (panel : Bool) : SparesTimebase s (s.testStart panel) := by
  have recorded (t : TestRecord) (src : ActionSource) (n : Nat) : SparesTimebase s
      (({ s with panel := { s.panel with test := t } }).actionRecord .testStart src .all n) := ⟨rfl, id⟩
  exact .ite ((recorded _ _ _).trans (.of_frame (State.actionCause_frame _ _)))
    ((recorded _ _ _).trans (.of_frame (State.actionCause_frame _ _)))

theorem testEndRecord_spares (s : State) (how : TestEnding) (t : TestRecord) :
    SparesTimebase s (s.testEndRecord how t) := by
  cases how <;> exact ⟨rfl, id⟩

theorem withdrawHorn_spares (s : State) : SparesTimebase s s.withdrawHorn :=
  .ite (.of_frame (s.withdraw_frame _)) (.refl s)

theorem testEnd_spares (s : State) (how : TestEnding) : SparesTimebase s (s.testEnd how) := by
  have idle : SparesTimebase s
      { s.withdrawHorn with panel := { s.withdrawHorn.panel with test := s.panel.test.ended } } :=
    (withdrawHorn_spares s).trans ⟨rfl, id⟩
  have ended := (idle.trans (testEndRecord_spares _ how s.panel.test)).trans (setCause_spares _ .testend)
  exact .ite (ended.trans (setCause_spares _ _)) ended

theorem leaveActive_spares (s : State) : SparesTimebase s s.leaveActive := .ite (testEnd_spares s _) (.refl s)

theorem hornTestStep_spares (s : State) : SparesTimebase s (hornTestStep s) := by
  have joined : SparesTimebase s
      { s with panel := { s.panel with test := { s.panel.test with state := .lampAndHornTest } } } := ⟨rfl, id⟩
  exact .ite (joined.trans (.of_frame (State.post_frame _ _ _ _ _ _))) (.refl s)

theorem testTimeoutStep_spares (s : State) : SparesTimebase s (testTimeoutStep s) := .ite (testEnd_spares s _) (.refl s)

theorem hostAction_spares (s : State) (a : Action) : SparesTimebase s (s.hostAction a) := by
  cases a with
  | ack => exact .of_frame (s.pointAction_frame _ ackPoint_framed _ _)
  | silence => exact .of_frame (s.pointAction_frame _ silencePoint_framed _ _)
  | reset => exact .of_frame (s.pointAction_frame _ resetPoint_framed _ _)
  | testStart => exact testStart_spares s _
  | testEnd => exact .ite ⟨rfl, id⟩ (testEnd_spares s _)

theorem actionCommand_spares (a : Action) (s : State) : SparesTimebase s (actionCommand a s) :=
  .ite (refuseCommand_spares s _ _) (.ite (refuseCommand_spares s _ _) (hostAction_spares s a))

theorem press_spares (s : State) (b : Button) : SparesTimebase s (s.press b) := by
  refine .ite ?_ (.refl s)
  cases b with
  | ack => exact .of_frame (s.pointAction_frame _ ackPoint_framed _ _)
  | sil => exact .of_frame (s.pointAction_frame _ silencePoint_framed _ _)
  | rst => exact .of_frame (s.pointAction_frame _ resetPoint_framed _ _)
  | tst => exact .ite (.refl s) (testStart_spares s _)

theorem releaseButton_spares (s : State) (b : Button) : SparesTimebase s (s.releaseButton b) := by
  cases b with
  | tst => exact .ite (testEnd_spares s _) (.refl s)
  | ack | sil | rst => exact .refl s

theorem buttonSampleStep_spares (order : List Button) (s : State) : SparesTimebase s (buttonSampleStep order s) := by
  have filtered : SparesTimebase s
      { s with panel := { s.panel with filters := s.filtersAfter, sampleDue := false } } := ⟨rfl, id⟩
  exact .ite (filtered.trans (SparesTimebase.foldl
    (fun t b => .ite (.refl t) (.ite (press_spares t b) (releaseButton_spares t b))) _ _)) (.refl s)

/-! ### Transfers -/

theorem accessDrdat_spares (a : Access) (s : State) : SparesTimebase s (accessDrdat a s) := by
  cases a <;> exact ⟨rfl, id⟩

theorem readRbdat_spares (s : State) : SparesTimebase s (readRbdat s) := ⟨rfl, id⟩

theorem transferRequest_spares (r : TransferRequest) (s : State) : SparesTimebase s (transferRequest r s) := by
  unfold transferRequest
  split <;> exact ⟨rfl, id⟩

theorem commitCompletionStep_spares (s : State) : SparesTimebase s (commitCompletionStep s) := by
  unfold commitCompletionStep
  split
  · exact .refl s
  · split
    · exact .refl s
    all_goals exact .ite ⟨rfl, id⟩ (.refl s)

theorem fetchCompletionStep_spares (s : State) : SparesTimebase s (fetchCompletionStep s) := by
  unfold fetchCompletionStep
  split
  · exact .refl s
  · split
    · exact .ite ⟨rfl, id⟩ (.refl s)
    all_goals exact .refl s

theorem makeAccess_spares (s : State) : SparesTimebase s s.makeAccess := by
  unfold State.makeAccess
  split <;> exact ⟨rfl, id⟩

theorem lateAccess_spares (s : State) : SparesTimebase s s.lateAccess := by
  unfold State.lateAccess
  split
  · exact .refl s
  · exact .ite (makeAccess_spares s) (.refl s)

theorem engineTick_spares (s : State) (late : Bool) : SparesTimebase s (s.engineTick late) := by
  unfold State.engineTick
  split
  · exact .refl s
  · exact .ite (.refl s) (.ite ⟨rfl, id⟩ (makeAccess_spares s))

theorem abandonTransfers_spares (s : State) : SparesTimebase s s.abandonTransfers := by
  unfold State.abandonTransfers
  dsimp only
  split <;> exact ⟨rfl, id⟩

/-! ### Sounds and supply -/

theorem chimeCommand_spares (stop : Bool) (s : State) : SparesTimebase s (chimeCommand stop s) :=
  .ite (refuseCommand_spares s _ _) (.ite (.of_frame (s.withdraw_frame _)) (.of_frame (s.post_frame _ _ _ _ _)))

theorem writeVcnt_spares (v : Byte) (s : State) : SparesTimebase s (writeVcnt v s) := by
  have written : SparesTimebase s { s with tones := { s.tones with vcnt := v } } := ⟨rfl, id⟩
  exact .ite (written.trans (.of_frame (State.allocateIfLimitChanged_frame _ _))) (refuse_spares s _ _)

theorem supplyChange_spares (s : State) (dest : SupplyState) : SparesTimebase s (s.supplyChange dest) := by
  refine .trans ?_ (.of_frame (State.allocateIfLimitChanged_frame _ _))
  exact ⟨rfl, id⟩

theorem supplySampleStep_spares (s : State) : SparesTimebase s (supplySampleStep s) := by
  have counted : SparesTimebase s { s with supply := s.supply.counted s.pins.vdrv } := ⟨rfl, id⟩
  refine .ite ?_ (.refl s)
  dsimp only
  split
  · exact counted
  · exact counted.trans (supplyChange_spares _ _)

/-! ### The controller commands -/

theorem startCommand_spares (s : State) : SparesTimebase s (startCommand s) :=
  .ite ⟨rfl, nofun⟩ (refuseCommand_spares s _ _)

theorem clearRun_spares (s : State) : SparesTimebase s s.clearRun := ⟨rfl, id⟩

theorem enterSetup_spares (s : State) : SparesTimebase s s.enterSetup := ⟨rfl, nofun⟩

theorem stopCommand_spares (s : State) : SparesTimebase s (stopCommand s) :=
  .ite (((leaveActive_spares s).trans (clearRun_spares _)).trans
    ((enterSetup_spares _).trans (controllerRecord_spares _ _ _))) (refuseCommand_spares s _ _)

theorem holdNow_spares (s : State) : SparesTimebase s s.holdNow := by
  have held : SparesTimebase s.leaveActive s.leaveActive.enterHold := ⟨rfl, nofun⟩
  exact ((leaveActive_spares s).trans held).trans
    ((SparesTimebase.of_frame (State.allocateIfLimitChanged_frame _ _)).trans (controllerRecord_spares _ _ _))

theorem holdCommand_spares (s : State) : SparesTimebase s (holdCommand s) :=
  .ite ((expireShelves_spares s).trans (holdNow_spares _)) (refuseCommand_spares s _ _)

theorem resumeCommand_spares (s : State) : SparesTimebase s (resumeCommand s) := by
  have left : SparesTimebase s s.leaveHold := ⟨rfl, nofun⟩
  exact .ite ((left.trans (.of_frame (State.allocateIfLimitChanged_frame _ _))).trans (controllerRecord_spares _ _ _))
    (refuseCommand_spares s _ _)

theorem softresetCommand_spares (s : State) : SparesTimebase s (softresetCommand s) := by
  have cleared (t : State) : SparesTimebase t t.releaseLatch.clearRun.supplyOk := ⟨rfl, id⟩
  have flags (t : State) : SparesTimebase t t.clearFlags := ⟨rfl, id⟩
  exact .ite (refuseCommand_spares s _ _)
    ((((leaveActive_spares s).trans (abandonTransfers_spares _)).trans (cleared _)).trans
      (((enterSetup_spares _).trans (flags _)).trans (controllerRecord_spares _ _ _)))

/-! ### What an event of a tick keeps of the Timebase -/

/-- What every event of a tick keeps: the run clock, the divisor, the eighth length and the role as they are, and the
synchronisation invariant. -/
structure KeepsCadence (s t : State) : Prop where
  clock : t.time.clock = s.time.clock
  tdiv : t.time.tdiv = s.time.tdiv
  elen : t.time.elen = s.time.elen
  role : t.time.role = s.time.role
  sync : s.SyncKept → t.SyncKept

theorem KeepsCadence.refl (s : State) : KeepsCadence s s := ⟨rfl, rfl, rfl, rfl, id⟩

theorem KeepsCadence.trans {s t u : State} (h : KeepsCadence s t) (k : KeepsCadence t u) : KeepsCadence s u :=
  ⟨k.clock.trans h.clock, k.tdiv.trans h.tdiv, k.elen.trans h.elen, k.role.trans h.role, k.sync ∘ h.sync⟩

theorem SparesTimebase.keepsCadence {s t : State} (h : SparesTimebase s t) : KeepsCadence s t := by
  refine ⟨?_, ?_, ?_, ?_, h.syncKept⟩ <;> rw [h.1]

theorem KeepsCadence.ite {s t : State} {c : Prop} [Decidable c] (h : c → KeepsCadence s t) :
    KeepsCadence s (if c then t else s) := by
  split
  · next hc => exact h hc
  · exact .refl s

/-- INIT is left with the Timebase as it stands, but for the length of the eighth in progress (R92). -/
theorem initDoneStep_keeps (s : State) : KeepsCadence s (initDoneStep s) := by
  refine .ite fun _ => ⟨rfl, rfl, rfl, rfl, fun h => ?_⟩
  exact syncKept_of_running nofun (syncFits_of_syncKept (s := s) h)

/-! ### Cycle starts -/

/-- The Timebase after a cycle start: the reminders posted at it leave the Timebase alone (R78, R94, R97). -/
theorem cycleStart_time (s : State) (c : BitVec 6) (into : Nat) :
    (s.cycleStart c into).time =
      { s.time with
        eighth := 0
        intoEighth := into
        eighthLen := s.time.elen
        cycle := c
        lineLowUntil := if s.time.role = .leader then some (s.pulseEnd c) else s.time.lineLowUntil } :=
  (frame_time_ctl (State.reminders_frame _ c)).1

theorem cycleStart_ctl (s : State) (c : BitVec 6) (into : Nat) : (s.cycleStart c into).ctl = s.ctl :=
  (frame_time_ctl (State.reminders_frame _ c)).2

/-- A cycle start pulls CSYNC low for a LEADER alone (R97). -/
theorem cycleStart_fits {s : State} (h : SyncFits s.time) (c : BitVec 6) (into : Nat) :
    SyncFits (s.cycleStart c into).time := by
  obtain ⟨line, lock, low⟩ := h
  rw [cycleStart_time]
  refine ⟨fun driven => ?_, lock, low⟩
  by_cases leads : s.time.role = .leader
  · exact leads
  · exact line (by simpa [leads] using driven)

theorem cycleStart_keeps {s : State} (run : s.ctl.state ≠ .init) (c : BitVec 6) (into : Nat) :
    KeepsCadence s (s.cycleStart c into) := by
  refine ⟨?_, ?_, ?_, ?_, fun h => syncKept_of_running ?_ (cycleStart_fits (syncFits_of_syncKept h) c into)⟩
  iterate 4 rw [cycleStart_time]
  rwa [cycleStart_ctl]

/-- The end of an eighth is not due in INIT (R92, R93). -/
theorem running_of_eighthDue {s : State} (due : s.eighthDue = true) : s.ctl.state ≠ .init := by
  simp only [State.eighthDue, State.cadenceRuns, Bool.and_eq_true, decide_eq_true_eq] at due
  obtain ⟨⟨run, -⟩, -⟩ := due
  exact run

theorem eighthEndStep_keeps (s : State) : KeepsCadence s (eighthEndStep s) := by
  refine .ite fun due => ?_
  have run := running_of_eighthDue due
  split
  · exact cycleStart_keeps run _ _
  · exact ⟨rfl, rfl, rfl, rfl, fun h => syncKept_of_running run (syncFits_of_syncKept (s := s) h)⟩

/-- The release of CSYNC (R97). -/
theorem lineReleaseStep_keeps (s : State) : KeepsCadence s (lineReleaseStep s) := by
  refine .ite fun _ => ⟨rfl, rfl, rfl, rfl, fun h => ?_⟩
  obtain ⟨⟨-, lock, low⟩, start⟩ := (syncKept_iff s).mp h
  exact (syncKept_iff _).mpr ⟨⟨nofun, lock, low⟩, start⟩

/-! ### Pulses and misses -/

theorem clearLowRun_keeps (s : State) : KeepsCadence s s.clearLowRun := by
  refine ⟨rfl, rfl, rfl, rfl, fun h => ?_⟩
  obtain ⟨⟨line, lock, -⟩, start⟩ := (syncKept_iff s).mp h
  exact (syncKept_iff _).mpr ⟨⟨line, lock, nofun⟩, start⟩

/-- The Timebase a recognised pulse leaves is that of its cycle start, with the lock taken (R99, R100). -/
theorem takePulse_time (s : State) (n : Nat) (marker : Bool) :
    (s.takePulse n marker).time =
      { (s.cycleStart (if marker then 0 else s.time.cycle + 1) n).time with sync := .locked, misses := 0 } := by
  unfold State.takePulse
  dsimp only
  split <;> rfl

theorem takePulse_ctl (s : State) (n : Nat) (marker : Bool) : (s.takePulse n marker).ctl = s.ctl := by
  rw [← cycleStart_ctl s (if marker then 0 else s.time.cycle + 1) n]
  unfold State.takePulse
  dsimp only
  split <;> rfl

/-- The lock a recognised pulse takes is a FOLLOWER's (R99). -/
theorem takePulse_syncKept {s : State} (h : s.SyncKept) (follows : s.time.role = .follower) (n : Nat)
    (marker : Bool) : (s.takePulse n marker).SyncKept := by
  have run : (s.takePulse n marker).ctl.state ≠ .init := by
    rw [takePulse_ctl]
    exact running_of_follower h follows
  obtain ⟨line, -, low⟩ :=
    cycleStart_fits (syncFits_of_syncKept h) (if marker then 0 else s.time.cycle + 1) n
  refine syncKept_of_running run ?_
  rw [takePulse_time]
  refine ⟨line, fun _ => ?_, low⟩
  rwa [cycleStart_time]

/-- The end of a low period, recognised or discarded; a low period is a FOLLOWER's (R98). -/
theorem pulseStep_keeps (s : State) : KeepsCadence s (pulseStep s) := by
  unfold pulseStep
  cases ended : s.time.lowRun with
  | ended n =>
    have follows (h : s.SyncKept) : s.time.role = .follower := by
      obtain ⟨-, -, low⟩ := syncFits_of_syncKept h
      exact low n (.inr ended)
    have taken (marker : Bool) : KeepsCadence s (s.clearLowRun.takePulse n marker) := by
      refine ⟨?_, ?_, ?_, ?_, fun h => takePulse_syncKept ((clearLowRun_keeps s).sync h) (follows h) n marker⟩
      all_goals rw [takePulse_time, cycleStart_time]; rfl
    cases kind : pulseKind n with
    | pulse => simpa only [kind] using taken false
    | marker => simpa only [kind] using taken true
    | discarded => simpa only [kind] using clearLowRun_keeps s
  | none | counting | discarded => exact .refl s

/-- The loss of the lock at the third miss (R101). -/
theorem loseLock_keeps (s : State) : KeepsCadence s s.loseLock := by
  refine .ite fun _ => ⟨rfl, rfl, rfl, rfl, fun h => ?_⟩
  obtain ⟨⟨line, -, low⟩, start⟩ := (syncKept_iff s).mp h
  exact (syncKept_iff _).mpr ⟨⟨line, nofun, low⟩, start⟩

/-- A miss is not due in INIT (R92, R100, R101). -/
theorem running_of_missDue {s : State} (due : s.missDue = true) : s.ctl.state ≠ .init := by
  simp only [State.missDue, State.cadenceRuns, Bool.and_eq_true, decide_eq_true_eq] at due
  obtain ⟨⟨⟨run, -⟩, -⟩, -⟩ := due
  exact run

theorem missStep_keeps (s : State) : KeepsCadence s (missStep s) := by
  refine .ite fun due => ?_
  have counted : KeepsCadence s { s with time := { s.time with misses := s.time.misses + 1 } } :=
    ⟨rfl, rfl, rfl, rfl, id⟩
  have started := cycleStart_keeps (s := { s with time := { s.time with misses := s.time.misses + 1 } })
    (running_of_missDue due) (s.time.cycle + 1) 0
  exact (counted.trans started).trans (loseLock_keeps _)

/-! ### The tick -/

/-- Every event left over from the tick before keeps the cadence (log 4). -/
theorem takeDue_keeps (s : State) : KeepsCadence s s.takeDue := by
  have boundaries (t : State) : SparesTimebase t ((List.finRange 4).foldl (fun t v => stepBoundaryStep v t) t) :=
    SparesTimebase.foldl (fun t v => .of_frame (stepBoundaryStep_frame v t)) _ t
  have decays (t : State) : SparesTimebase t ((List.finRange 4).foldl (fun t v => envelopeDecayStep v t) t) :=
    SparesTimebase.foldl (fun t v => .of_frame (envelopeDecayStep_frame v t)) _ t
  unfold State.takeDue
  dsimp only
  refine .trans ?_ (lateAccess_spares _).keepsCadence
  refine .trans ?_ (supplySampleStep_spares _).keepsCadence
  refine .trans ?_ (decays _).keepsCadence
  refine .trans ?_ (boundaries _).keepsCadence
  refine .trans ?_ (fetchCompletionStep_spares _).keepsCadence
  refine .trans ?_ (commitCompletionStep_spares _).keepsCadence
  refine .trans ?_ (missStep_keeps _)
  refine .trans ?_ (pulseStep_keeps _)
  refine .trans ?_ (lineReleaseStep_keeps _)
  refine .trans ?_ (eighthEndStep_keeps _)
  refine .trans ?_ (testTimeoutStep_spares _).keepsCadence
  refine .trans ?_ (hornTestStep_spares _).keepsCadence
  refine .trans ?_ (buttonSampleStep_spares [] _).keepsCadence
  refine .trans ?_ (expireShelves_spares _).keepsCadence
  refine .trans ?_ (settleEndStep_spares _).keepsCadence
  refine .trans ?_ (scanStep_spares [] _).keepsCadence
  exact initDoneStep_keeps s

/-- The Timebase at a tick: one ms of the run clock, the divisor taken up, the settings as they are (R88, R89). -/
theorem tick_settings (t : Timebase) (runs csync : Bool) :
    (t.tick runs csync).clock = t.clock + 1 ∧ (t.tick runs csync).divisorInUse = t.tdiv ∧
    (t.tick runs csync).tdiv = t.tdiv ∧ (t.tick runs csync).elen = t.elen ∧ (t.tick runs csync).role = t.role :=
  ⟨rfl, rfl, rfl, rfl, rfl⟩

/-- A FOLLOWER alone samples the line (R98). -/
theorem tick_fits {t : Timebase} (h : SyncFits t) (runs csync : Bool) : SyncFits (t.tick runs csync) := by
  obtain ⟨line, lock, low⟩ := h
  refine ⟨line, lock, fun n counts => ?_⟩
  by_cases follows : t.role = .follower
  · exact follows
  · exact low n (by simpa [Timebase.tick, follows] using counts)

/-- The time into the eighth counts outside INIT alone (R92, R93). -/
theorem advance_syncKept {s : State} (h : s.SyncKept) (p : Pins) : (s.advance p).SyncKept := by
  obtain ⟨fits, start⟩ := (syncKept_iff s).mp h
  refine (syncKept_iff _).mpr ⟨tick_fits fits _ _, fun init => ?_⟩
  have still : s.cadenceRuns = false := by simpa [State.cadenceRuns] using init
  obtain ⟨solo, eighth, into, cycle⟩ := start init
  exact ⟨solo, eighth, by simpa [State.advance, Timebase.tick, still] using into, cycle⟩

theorem tickStep_syncKept (p : Pins) (late : Bool) {s : State} (h : s.SyncKept) : (tickStep p late s).SyncKept :=
  (engineTick_spares _ late).syncKept (advance_syncKept ((takeDue_keeps s).sync h) p)

/-- The Timebase after a tick: that of the events left over, ticked once (R88, R89). -/
theorem tickStep_time (p : Pins) (late : Bool) (s : State) :
    (tickStep p late s).time = s.takeDue.time.tick s.takeDue.cadenceRuns p.csync :=
  (engineTick_spares _ late).1

theorem engineTick_pins (s : State) (late : Bool) : (s.engineTick late).pins = s.pins := by
  have access : s.makeAccess.pins = s.pins := by unfold State.makeAccess; split <;> rfl
  unfold State.engineTick
  split
  · rfl
  · split
    · rfl
    · split
      · rfl
      · exact access

/-- Settles O5: the events left over keep the clock and the settings, and the tick itself counts once. -/
theorem tickAdvancesClock : Obligations.TickAdvancesClock := by
  intro p late s running
  have kept := takeDue_keeps s
  obtain ⟨clock, divisor, tdiv, elen, role⟩ := tick_settings s.takeDue.time s.takeDue.cadenceRuns p.csync
  refine ⟨tickStep p late s, by simp [exec, execTick, running], ?_, engineTick_pins _ late, ?_, ?_, ?_, ?_⟩
  all_goals rw [tickStep_time]
  · rw [clock, kept.clock]
  · exact divisor.trans kept.tdiv
  · exact tdiv.trans kept.tdiv
  · exact elen.trans kept.elen
  · exact role.trans kept.role

/-! ### Writes of the Timebase's registers -/

/-- An accepted write of SROLE releases CSYNC, gives up the lock and discards a low period under way (R96, R98). -/
theorem setRole_fits (s : State) (r : Role) : SyncFits (s.setRole r).time := by
  refine ⟨nofun, nofun, fun n counts => ?_⟩
  cases high : s.pins.csync <;> simp [State.setRole, high] at counts

theorem writeSrole_syncKept (v : Byte) {s : State} (h : s.SyncKept) : (writeSrole v s).SyncKept := by
  unfold writeSrole
  split
  · exact (refuse_spares s _ _).syncKept h
  · next setup =>
    split
    · exact (refuse_spares s _ _).syncKept h
    · exact syncKept_of_running (by simp [Decidable.not_not.mp setup]) (setRole_fits s _)

theorem writeTdiv_syncKept (half : WhichByte) (v : Byte) {s : State} (h : s.SyncKept) :
    (writeTdiv half v s).SyncKept := by
  unfold writeTdiv
  split
  · exact (refuse_spares s _ _).syncKept h
  · cases half with
    | low => exact h
    | high =>
      dsimp only
      split
      · exact (refuse_spares s _ _).syncKept h
      · exact h

theorem writeElen_syncKept (v : Byte) {s : State} (h : s.SyncKept) : (writeElen v s).SyncKept := by
  unfold writeElen State.inSetup
  split
  · split
    · exact h
    · exact (refuse_spares s _ _).syncKept h
  · exact (refuse_spares s _ _).syncKept h

/-! ### Writes of the register window -/

theorem inSetup_spares {f : State → State} (r : Reg) {s : State} (hf : SparesTimebase s (f s)) :
    SparesTimebase s (s.inSetup r f) := .ite hf (refuse_spares s _ _)

theorem writeCcmd_spares (v : Byte) (s : State) : SparesTimebase s (writeCcmd v s) := by
  unfold writeCcmd
  split
  · exact startCommand_spares s
  · exact stopCommand_spares s
  · exact holdCommand_spares s
  · exact resumeCommand_spares s
  · exact softresetCommand_spares s
  · exact refuseCommand_spares s _ _

theorem writePcmd_spares (v : Byte) (s : State) : SparesTimebase s (writePcmd v s) := by
  unfold writePcmd
  split
  · exact shelveCommand_spares s
  · exact unshelveCommand_spares s
  · exact refuseCommand_spares s _ _

theorem writeActn_spares (v : Byte) (s : State) : SparesTimebase s (writeActn v s) := by
  unfold writeActn
  split
  case h_6 => exact refuseCommand_spares s _ _
  all_goals exact actionCommand_spares _ s

theorem writeXreq_spares (v : Byte) (s : State) : SparesTimebase s (writeXreq v s) := by
  unfold writeXreq
  split
  case h_5 => exact refuseCommand_spares s _ _
  all_goals exact transferRequest_spares _ s

theorem writeChctl_spares (v : Byte) (s : State) : SparesTimebase s (writeChctl v s) :=
  .ite (chimeCommand_spares _ s) (.ite (chimeCommand_spares _ s) (refuseCommand_spares s _ _))

theorem writeScnper_spares (v : Byte) (s : State) : SparesTimebase s (writeScnper v s) := by
  refine inSetup_spares _ ?_
  split <;> exact ⟨rfl, id⟩

theorem writeAscp_spares (v : Byte) (s : State) : SparesTimebase s (writeAscp v s) := by
  unfold writeAscp
  split <;> exact ⟨rfl, id⟩

/-- A write of a register whose value is an index: taken below the bound, refused from it on. -/
theorem index_spares {n : Nat} {v : Byte} {s : State} {f : v.toNat < n → State} (r : Reg)
    (hf : ∀ h, SparesTimebase s (f h)) :
    SparesTimebase s (if h : v.toNat < n then f h else s.refuse r .badValue) := by
  split
  · exact hf _
  · exact refuse_spares s _ _

/-- A write of any register: TDIV, ELEN and SROLE are the Timebase's, every other write spares it (R200). -/
theorem writeRegister_syncKept (r : Reg) (v : Byte) {s : State} (h : s.SyncKept) : (writeRegister r v s).SyncKept := by
  have spared {t : State} (k : SparesTimebase s t) : t.SyncKept := k.syncKept h
  cases r with
  | tdiv half => exact writeTdiv_syncKept half v h
  | elen => exact writeElen_syncKept v h
  | srole => exact writeSrole_syncKept v h
  | ccmd => exact spared (writeCcmd_spares v s)
  | psel => exact spared (writePsel_spares v s)
  | pcf i => exact spared (writePcf_spares i v s)
  | pcmd => exact spared (writePcmd_spares v s)
  | shdur half => exact spared (writeShdur_spares half v s)
  | scnper => exact spared (writeScnper_spares v s)
  | ascp => exact spared (writeAscp_spares v s)
  | actn => exact spared (writeActn_spares v s)
  | gcmd => exact spared (.ite (rearmCommand_spares s) (refuseCommand_spares s _ _))
  | drdat => exact spared (accessDrdat_spares _ s)
  | xreq => exact spared (writeXreq_spares v s)
  | vcnt => exact spared (writeVcnt_spares v s)
  | chctl => exact spared (writeChctl_spares v s)
  | evcmd => exact spared (.ite (flushCommand_spares s) (refuseCommand_spares s _ _))
  | setl | opts => exact spared (inSetup_spares _ ⟨rfl, id⟩)
  | gsel | dradr | rbadr | vsel | htpat => exact spared (index_spares _ fun _ => ⟨rfl, id⟩)
  | lmplv | tstlv | eccap | ecolv | echys | evthr => exact spared (.ite ⟨rfl, id⟩ (refuse_spares s _ _))
  | agrd | plock | xid | chpat | evmsk => exact spared ⟨rfl, id⟩
  | ics | ien | ilv => exact spared ⟨rfl, id⟩
  | csts | rfs0 | rfs1 | rclk | cstat | cycnt | pst | scnnum | lout | pbtn | tsts | gst | xstat0 | xstat1 | rbdat
  | vst | rqcnt | sgst | sglev | ev | evcnt | evnxt0 | evnxt1 | ivec | evlat => exact h

theorem busWrite_syncKept (a : BitVec 7) (v : Byte) {s : State} (h : s.SyncKept) : (busWrite a v s).SyncKept := by
  unfold busWrite
  split
  · exact h
  · exact writeRegister_syncKept _ v h

/-! ### Every command -/

/-- A meaning answers a next state, and keeps the synchronisation invariant. -/
def AnswersInSync (s : State) (o : Out) : Prop := ∃ t, o = .next t ∧ (s.SyncKept → t.SyncKept)

theorem ran_inSync {f : State → State} (s : State) (hf : s.SyncKept → (f s).SyncKept) :
    AnswersInSync s (ran f s) := by
  refine ⟨_, rfl, fun h => ?_⟩
  split
  · exact h
  · exact hf h

theorem SparesTimebase.ran_inSync {f : State → State} {s : State} (hf : SparesTimebase s (f s)) :
    AnswersInSync s (ran f s) := Cadence.ran_inSync s hf.syncKept

/-- The Timebase's values after a reset keep the invariant, in INIT and out of it. -/
theorem syncKept_of_reset {s : State} (h : s.time = Timebase.reset) : s.SyncKept := by
  rw [syncKept_iff, h]
  exact ⟨⟨nofun, nofun, fun n counts => by simp [Timebase.reset] at counts⟩, fun _ => ⟨rfl, rfl, rfl, rfl⟩⟩

theorem execTick_inSync (p : Pins) (late : Bool) (s : State) : AnswersInSync s (execTick p late s) := by
  refine ⟨_, rfl, fun h => ?_⟩
  split
  · exact h
  · exact tickStep_syncKept p late h

/-- Every command of the table keeps the synchronisation invariant. -/
theorem exec_inSync (c : Instr) (s : State) : AnswersInSync s (exec c s) := by
  cases c with
  | powerOnReset | hardwareReset | resetInputAsserted => exact ⟨_, rfl, fun _ => syncKept_of_reset rfl⟩
  | tick p late => exact execTick_inSync p late s
  | initDone => exact ran_inSync s (initDoneStep_keeps s).sync
  | eighthEnd => exact ran_inSync s (eighthEndStep_keeps s).sync
  | lineRelease => exact ran_inSync s (lineReleaseStep_keeps s).sync
  | pulseRecognised => exact ran_inSync s (pulseStep_keeps s).sync
  | miss => exact ran_inSync s (missStep_keeps s).sync
  | sroleWrite v => exact ran_inSync s (writeSrole_syncKept v)
  | tdivWrite half v => exact ran_inSync s (writeTdiv_syncKept half v)
  | registerWrite a v => exact ran_inSync s (busWrite_syncKept a v)
  | start => exact (startCommand_spares s).ran_inSync
  | stop => exact (stopCommand_spares s).ran_inSync
  | hold => exact (holdCommand_spares s).ran_inSync
  | resume => exact (resumeCommand_spares s).ran_inSync
  | softreset => exact (softresetCommand_spares s).ran_inSync
  | scan order => exact (scanStep_spares order s).ran_inSync
  | settleEnd => exact (settleEndStep_spares s).ran_inSync
  | rearm => exact (rearmCommand_spares s).ran_inSync
  | shelve => exact (shelveCommand_spares s).ran_inSync
  | unshelve => exact (unshelveCommand_spares s).ran_inSync
  | shelfExpiry p => exact (shelfExpiryStep_spares p s).ran_inSync
  | buttonSample order => exact (buttonSampleStep_spares order s).ran_inSync
  | ack | silence | reset | testStart | testEnd => exact (actionCommand_spares _ s).ran_inSync
  | hornTestBegin => exact (hornTestStep_spares s).ran_inSync
  | testTimeout => exact (testTimeoutStep_spares s).ran_inSync
  | pselWrite v => exact (writePsel_spares v s).ran_inSync
  | pcfWrite i v => exact (writePcf_spares i v s).ran_inSync
  | shdurWrite half v => exact (writeShdur_spares half v s).ran_inSync
  | commitHeader | commitSteps | commitBoth | fetch => exact (transferRequest_spares _ s).ran_inSync
  | commitCompletion => exact (commitCompletionStep_spares s).ran_inSync
  | fetchCompletion => exact (fetchCompletionStep_spares s).ran_inSync
  | drdatAccess a => exact (accessDrdat_spares a s).ran_inSync
  | rbdatRead => exact (readRbdat_spares s).ran_inSync
  | chimeStart | chimeStop => exact (chimeCommand_spares _ s).ran_inSync
  | vcntWrite v => exact (writeVcnt_spares v s).ran_inSync
  | stepBoundary v => exact (SparesTimebase.of_frame (stepBoundaryStep_frame v s)).ran_inSync
  | envelopeDecay v => exact (SparesTimebase.of_frame (envelopeDecayStep_frame v s)).ran_inSync
  | supplySample => exact (supplySampleStep_spares s).ran_inSync
  | ev0Read => exact (readEv0_spares s).ran_inSync
  | ev9Read => exact (readEv9_spares s).ran_inSync
  | flush => exact (flushCommand_spares s).ran_inSync
  | icsWrite half v => exact (writeIcs_spares half v s).ran_inSync
  | scnnumLowRead | rclk0Read | cstatRead | shelfSecondsLowRead | gst3Read | xstat0Read | vst0Read | lout0Read
  | sgstRead | evnxt0Read | rfs0Read => exact (readFirst_spares _ _ s).ran_inSync
  | holdPartnerByteRead b => exact (readPartner_spares b s).ran_inSync

/-- Settles O59: the command at the front keeps the invariant, and an empty queue idles. -/
theorem stepKeepsSync : Obligations.StepKeepsSync := by
  intro s t kept taken
  unfold step at taken
  split at taken
  · cases taken
    exact kept
  · next c rest _ =>
    obtain ⟨u, answer, inSync⟩ := exec_inSync c { s with pending := rest }
    obtain rfl : u = t := Host.Outcome.next.inj (answer.symm.trans taken)
    exact inSync kept

end Sys2Proof.Machine.Cadence
end

section
/-! PROOFS. The Pattern Store, the Transfer Engine and the voices they feed: every write of the store is legal, every
request the Transfer Engine takes holds legal copies, and every record a voice plays is in its ranges. -/

namespace Sys2Proof.Machine.PatternStore

/-! ### Legal steps and headers -/

theorem initial_legal : Step.initial.Legal := by
  unfold Step.Legal
  decide

/-- A list of legal steps is legal at every place, and beyond its end (R110, R116). -/
theorem getD_legal {steps : List Step} (h : ∀ t ∈ steps, t.Legal) (n : Nat) : (steps.getD n .initial).Legal := by
  rw [List.getD_eq_getElem?_getD]
  cases found : steps[n]? with
  | none => exact initial_legal
  | some t => exact h t (List.mem_of_getElem? found)

/-- Every step number names a legal step. -/
theorem step_legal {st : Store} (h : ∀ n : Fin 256, (st.steps[n]).Legal) (n : Nat) : (st.step n).Legal := by
  refine getD_legal (fun t ht => ?_) n
  obtain ⟨i, hi, rfl⟩ := Vector.mem_iff_getElem.mp (Vector.mem_toList_iff.mp ht)
  exact h ⟨i, hi⟩

/-- The full passes of a legal header are 1 to 15 (R108, R147). -/
theorem fullPasses_within {h : ValidHeader} (legal : h.Legal) (rule : PassRule) :
    ∀ n ∈ fullPasses rule h.rep, Within 1 15 n := by
  obtain ⟨-, -, rep⟩ := legal
  intro n hn
  cases rule with
  | header =>
    cases code : h.rep with
    | once =>
      rw [code] at hn
      cases hn
      decide
    | loop =>
      rw [code] at hn
      cases hn
    | count m =>
      rw [code] at rep hn
      cases hn
      exact ⟨Nat.le_of_succ_le rep.1, rep.2⟩
  | once =>
    cases hn
    decide
  | loop => cases hn

/-! ### The draft (R123, R124, R127) -/

/-- A repeat code of at most 15 names a legal repeat (R106, R123). -/
theorem decoded_header_legal {code count first : Nat} (envelope : Envelope) (rep : code ≤ 15)
    (steps : Within 1 32 count) (range : first + count ≤ 256) :
    ({ rep := .ofCode code, envelope := envelope, count := count, first := first } : ValidHeader).Legal := by
  refine ⟨steps, range, ?_⟩
  match code, rep with
  | 0, _ | 1, _ => trivial
  | n + 2, rep => exact ⟨Nat.le_add_left _ _, rep⟩

/-- A chain of checks passes when its first check does and the rest do. -/
theorem check_eq_none_iff {c : Prop} [Decidable c] {why : Reason} {rest : Option Reason} :
    (if c then some why else rest) = none ↔ ¬c ∧ rest = none := by
  split <;> simp [*]

/-- A commit of a valid header passes with a legal repeat code, count and range alone (R127). -/
theorem header_of_accepted {d : Image} {r : TransferRequest} (h : draftRefusal d r = none)
    (writes : r = .commitHeader ∨ r = .commitBoth) (valid : d.valid = true) :
    d.repeatCode ≤ 15 ∧ Within 1 32 d.count ∧ d.first + d.count ≤ 256 := by
  obtain rfl | rfl := writes
  · simpa [draftRefusal, check_eq_none_iff, valid, Within, Nat.one_le_iff_ne_zero] using h
  · have passed : d.repeatCode ≤ 15 ∧ Within 1 32 d.count ∧ d.first + d.count ≤ 256 ∧
        ∀ i < d.count, d.stepLegal i = true := by
      simpa [draftRefusal, check_eq_none_iff, valid, Within, Nat.one_le_iff_ne_zero] using h
    obtain ⟨rep, count, range, -⟩ := passed
    exact ⟨rep, count, range⟩

/-- A commit of steps passes with a legal range and legal steps alone (R127). -/
theorem steps_of_accepted {d : Image} {r : TransferRequest} (h : draftRefusal d r = none)
    (writes : r = .commitSteps ∨ r = .commitBoth) :
    d.first + d.count ≤ 256 ∧ ∀ i < d.count, d.stepLegal i = true := by
  have steps : (decide (r = .commitSteps) || decide (r = .commitBoth)) = true := by simpa using writes
  simp only [draftRefusal, check_eq_none_iff, steps] at h
  obtain ⟨-, -, range, legal, -⟩ := h
  exact ⟨by simpa using range, by simpa using legal⟩

theorem bits_lt (v : Byte) (lo len : Nat) : bits v lo len < 2 ^ len := Nat.mod_lt _ (Nat.two_pow_pos len)

/-- A step image that passes its check holds a legal step: a level of three bits, a duration not 0 (R110, R124). -/
theorem image_step_legal {d : Image} {i : Nat} (h : d.stepLegal i = true) : (d.step i).Legal := by
  have level : bits (d.at (4 + 2 * i)) 5 3 < 8 := bits_lt _ 5 3
  have duration : (d.at (5 + 2 * i)).toNat < 256 := (d.at (5 + 2 * i)).isLt
  have lasts : (d.at (5 + 2 * i)).toNat ≠ 0 := by
    intro zero
    have : d.at (5 + 2 * i) = 0 := BitVec.eq_of_toNat_eq zero
    simp [Image.stepLegal, this] at h
  simp only [Step.Legal, Image.step, Within]
  omega

theorem image_steps_legal {d : Image} (h : ∀ i < d.count, d.stepLegal i = true) : ∀ t ∈ d.steps, t.Legal := by
  intro t ht
  obtain ⟨i, hi, rfl⟩ := List.mem_map.mp ht
  exact image_step_legal (h i (List.mem_range.mp hi))

theorem image_header_legal {d : Image}
    (h : d.valid = true → d.repeatCode ≤ 15 ∧ Within 1 32 d.count ∧ d.first + d.count ≤ 256) :
    HeaderLegal d.header := by
  intro v hv
  unfold Image.header at hv
  split at hv
  · next valid =>
    obtain ⟨rep, count, range⟩ := h valid
    cases hv
    exact decoded_header_legal _ rep count range
  · cases hv

/-- What an accepted request holds is legal (R127, R128). -/
theorem transferOf_legal {d : Image} {r : TransferRequest} (h : draftRefusal d r = none) : (transferOf d r).Legal := by
  have length : d.steps.length = d.count := by simp [Image.steps]
  cases r with
  | commitHeader => exact image_header_legal (header_of_accepted h (.inl rfl))
  | commitSteps =>
    obtain ⟨range, legal⟩ := steps_of_accepted h (.inl rfl)
    exact ⟨by rw [length]; exact range, image_steps_legal legal⟩
  | commitBoth =>
    obtain ⟨range, legal⟩ := steps_of_accepted h (.inr rfl)
    have header := image_header_legal (header_of_accepted h (.inr rfl))
    exact ⟨header, by rw [length]; exact range, image_steps_legal legal⟩
  | fetch => trivial

/-! ### A voice's record (R146 to R152) -/

/-- A step that is latched puts the record's step, its time and its level in their ranges (R147, R148). -/
theorem beginStep_inRange {p : Playing} {st : Store} (steps : ∀ n : Fin 256, (st.steps[n]).Legal)
    (held : p.held.Legal) (passes : ∀ n ∈ p.passes, Within 1 16 n) {i : Nat} (place : i ≤ 31) :
    (p.beginStep st i).InRange := by
  have latched := step_legal steps (p.held.first + i)
  obtain ⟨level, -, duration⟩ := latched
  refine ⟨held, step_legal steps _, place, ?_, level, passes⟩
  simp only [Playing.beginStep]
  omega

/-- One more than the full passes of a legal header, and those passes themselves, are 1 to 16 (R146, R152). -/
theorem fullPasses_inRange {h : ValidHeader} (legal : h.Legal) (rule : PassRule) :
    ∀ n ∈ fullPasses rule h.rep, Within 1 16 n ∧ Within 1 16 (n + 1) := by
  intro n hn
  have := fullPasses_within legal rule n hn
  unfold Within at *
  omega

theorem start_inRange {st : Store} (steps : ∀ n : Fin 256, (st.steps[n]).Legal) (x : Sound) {h : ValidHeader}
    (legal : h.Legal) : (Playing.start st x h).InRange :=
  beginStep_inRange steps legal (fun n hn => (fullPasses_inRange legal x.rule n hn).1) (Nat.zero_le _)

theorem join_inRange {p : Playing} (h : p.InRange) : p.join.InRange := by
  obtain ⟨held, latched, place, remaining, level, -⟩ := h
  refine ⟨held, latched, place, remaining, level, fun n hn => ?_⟩
  obtain ⟨_, -, hn⟩ := Option.bind_eq_some_iff.mp hn
  obtain ⟨m, hm, rfl⟩ := Option.map_eq_some_iff.mp hn
  exact (fullPasses_inRange held _ m hm).2

theorem tick_inRange {p : Playing} (h : p.InRange) : p.tick.InRange := by
  obtain ⟨held, latched, place, remaining, level, passes⟩ := h
  exact ⟨held, latched, place, Nat.le_trans (Nat.sub_le _ _) remaining, level, passes⟩

theorem decay_inRange {p : Playing} (h : p.InRange) : p.decay.InRange := by
  obtain ⟨held, latched, place, remaining, level, passes⟩ := h
  have weakened : 1 ≤ min (p.envLevel + 1) 8 := by omega
  exact ⟨held, latched, place, remaining, ⟨weakened, Nat.min_le_right _ _⟩, passes⟩

/-- The header read at a boundary is held, in whole or but for its repeat, with passes in their range (R150). -/
theorem takeHeader_inRange {p : Playing} (h : p.InRange) {v : ValidHeader} (legal : v.Legal) :
    (p.takeHeader v).held.Legal ∧ ∀ n ∈ (p.takeHeader v).passes, Within 1 16 n := by
  obtain ⟨⟨-, -, rep⟩, -, -, -, -, passes⟩ := h
  unfold Playing.takeHeader
  split
  · exact ⟨legal, fun n hn => (fullPasses_inRange legal .header n hn).1⟩
  · obtain ⟨count, range, -⟩ := legal
    exact ⟨⟨count, range, rep⟩, passes⟩

/-- A sound that plays on after a boundary is at a step of its header, with a pass left (R150, R151). -/
theorem boundary_inRange {p q : Playing} (h : p.InRange) {st : Store} (steps : ∀ n : Fin 256, (st.steps[n]).Legal)
    {v : ValidHeader} (legal : v.Legal) (on : p.boundary st v = some q) : q.InRange := by
  obtain ⟨held, passes⟩ := takeHeader_inRange h legal
  unfold Playing.boundary at on
  dsimp only at on
  split at on
  · next further =>
    cases on
    have count : (p.takeHeader v).held.count ≤ 32 := held.1.2
    exact beginStep_inRange steps held passes (by omega)
  · split at on
    · cases on
      exact beginStep_inRange steps held passes (Nat.zero_le _)
    · next n left =>
      split at on
      · cases on
      · next again =>
        cases on
        have before : Within 1 16 n := passes n left
        refine beginStep_inRange steps held (p := { p.takeHeader v with passes := some (n - 1) }) ?_ (Nat.zero_le _)
        intro m hm
        cases hm
        unfold Within at *
        omega

/-! ### What a command keeps of the store, the transfer queue and the voices -/

theorem storeLegal_congr {s t : State} (headers : t.store.headers = s.store.headers)
    (steps : t.store.steps = s.store.steps) (queue : t.xfer.queue = s.xfer.queue) (h : s.StoreLegal) :
    t.StoreLegal := by
  unfold State.StoreLegal Store.header at h ⊢
  rw [headers, steps, queue]
  exact h

/-- The two invariants are kept, the voices' ranges under a legal store. -/
structure KeepsLegal (s t : State) : Prop where
  store : s.StoreLegal → t.StoreLegal
  voices : s.StoreLegal → s.VoicesInRange → t.VoicesInRange

theorem KeepsLegal.refl (s : State) : KeepsLegal s s := ⟨id, fun _ => id⟩

theorem KeepsLegal.trans {s t u : State} (h : KeepsLegal s t) (k : KeepsLegal t u) : KeepsLegal s u :=
  ⟨k.store ∘ h.store, fun legal inRange => k.voices (h.store legal) (h.voices legal inRange)⟩

theorem KeepsLegal.foldl {α : Type} {f : State → α → State} (h : ∀ s a, KeepsLegal s (f s a)) (l : List α) :
    ∀ s, KeepsLegal s (l.foldl f s) := by
  induction l with
  | nil => exact .refl
  | cons a l ih => exact fun s => (h s a).trans (ih (f s a))

theorem KeepsLegal.ite {s t u : State} {c : Prop} [Decidable c] (h : KeepsLegal s t) (k : KeepsLegal s u) :
    KeepsLegal s (if c then t else u) := by
  split
  · exact h
  · exact k

/-- What the two invariants speak of stands as it stood: the store's tables, the transfer queue and the voices. -/
def Untouched (s t : State) : Prop :=
  t.store.headers = s.store.headers ∧ t.store.steps = s.store.steps ∧ t.xfer.queue = s.xfer.queue ∧
  t.voices = s.voices

/-- A change of anything else keeps both. -/
theorem KeepsLegal.same {s t : State} (h : Untouched s t) : KeepsLegal s t := by
  obtain ⟨headers, steps, queue, voices⟩ := h
  refine ⟨storeLegal_congr headers steps queue, fun _ inRange => ?_⟩
  unfold State.VoicesInRange at inRange ⊢
  rw [voices]
  exact inRange

/-- A change of the voices alone keeps both when each record it leaves is in its ranges. -/
theorem KeepsLegal.of_voices {s t : State} (headers : t.store.headers = s.store.headers)
    (steps : t.store.steps = s.store.steps) (queue : t.xfer.queue = s.xfer.queue)
    (h : s.StoreLegal → s.VoicesInRange → t.VoicesInRange) : KeepsLegal s t :=
  ⟨storeLegal_congr headers steps queue, h⟩

/-! ### Voices -/

/-- One voice takes a record in its ranges, or goes IDLE. -/
theorem setVoice_keeps (s : State) (v : VoiceId) (x : Voice)
    (h : s.StoreLegal → s.VoicesInRange → ∀ p ∈ x, p.InRange) : KeepsLegal s (s.setVoice v x) := by
  refine .of_voices rfl rfl rfl fun legal inRange w p hp => ?_
  rw [State.voice_setVoice] at hp
  split at hp
  · exact h legal inRange p hp
  · exact inRange w p hp

theorem idleVoice_keeps (s : State) (v : VoiceId) : KeepsLegal s (s.setVoice v none) :=
  setVoice_keeps s v none fun _ _ => nofun

/-- Every voice is changed in one way, which keeps a record in its ranges. -/
theorem mapVoices_inRange {s : State} {f : Voice → Voice}
    (hf : ∀ x : Voice, (∀ p ∈ x, p.InRange) → ∀ p ∈ f x, p.InRange) (h : s.VoicesInRange) :
    ∀ v : VoiceId, ∀ p ∈ (s.voices.map f)[v], p.InRange := by
  intro v p hp
  rw [Fin.getElem_fin, Vector.getElem_map] at hp
  exact hf _ (h v) p hp

/-- Voices that play on with their records, and voices that go IDLE (R144). -/
theorem keepVoices_keeps (s : State) (keep : Sound → Bool) :
    KeepsLegal s { s with voices := keepVoices s.voices keep } := by
  refine .of_voices rfl rfl rfl fun _ inRange => mapVoices_inRange (fun x hx p hp => ?_) inRange
  exact hx p (Option.filter_eq_some_iff.mp hp).1

theorem mapVoice_inRange {f : Playing → Playing} (hf : ∀ p, p.InRange → (f p).InRange) (x : Voice)
    (hx : ∀ p ∈ x, p.InRange) : ∀ p ∈ x.map f, p.InRange := by
  intro q hq
  obtain ⟨p, hp, rfl⟩ := Option.map_eq_some_iff.mp hq
  exact hf p (hx p hp)

/-! ### The allocation (R144, R153) -/

theorem record_keeps (s : State) (k : Kind) (p : Option (Fin 32)) (a b : Nat) : KeepsLegal s (s.record k p a b) :=
  .same ⟨rfl, rfl, rfl, rfl⟩

theorem setCause_keeps (s : State) (c : Cause) : KeepsLegal s (s.setCause c) := .same ⟨rfl, rfl, rfl, rfl⟩

theorem modSeq_keeps (s : State) (p : PointId) (f : Seq → Seq) : KeepsLegal s (s.modSeq p f) :=
  .same ⟨rfl, rfl, rfl, rfl⟩

theorem soundMissing_keeps (s : State) (x : Sound) : KeepsLegal s (s.soundMissing x) := by
  have removed : KeepsLegal s (s.removeSound x) := .same ⟨rfl, rfl, rfl, rfl⟩
  exact (removed.trans (.foldl (fun t _ => record_keeps t _ _ _ _) _ _)).trans (setCause_keeps _ _)

theorem startSound_keeps (slots : List (Option Sound)) (s : State) (x : Sound) :
    KeepsLegal s (s.startSound slots x) := by
  unfold State.startSound
  split
  · exact soundMissing_keeps s x
  · next header found =>
    split
    · exact .refl s
    · next v _ =>
      refine setVoice_keeps s v _ fun ⟨headers, steps, _⟩ _ p hp => ?_
      cases hp
      exact start_inRange steps x (headers _ _ found)

theorem carryOut_keeps (s : State) (p : Plan) : KeepsLegal s (s.carryOut p) :=
  (keepVoices_keeps s _).trans (.foldl (startSound_keeps p.slots) _ _)

theorem allocateFuel_keeps (n : Nat) : ∀ s : State, KeepsLegal s (s.allocateFuel n) := by
  induction n with
  | zero => exact .refl
  | succ n ih => exact fun s => .ite ((carryOut_keeps s _).trans (ih _)) (carryOut_keeps s _)

theorem allocate_keeps (s : State) : KeepsLegal s s.allocate := allocateFuel_keeps _ s

theorem allocateIfLimitChanged_keeps (s : State) (n : Nat) : KeepsLegal s (s.allocateIfLimitChanged n) :=
  .ite (.refl s) (allocate_keeps s)

theorem enlist_keeps (s : State) (src : Source) (kind : RequestKind) (pattern : PatternId) (rule : PassRule)
    (priority : Option (Fin 4)) : KeepsLegal s (s.enlist src kind pattern rule priority) := by
  refine .of_voices rfl rfl rfl fun _ inRange => mapVoices_inRange (mapVoice_inRange fun p hp => ?_) inRange
  split
  · exact join_inRange hp
  · exact hp

theorem post_keeps (s : State) (src : Source) (kind : RequestKind) (pattern : PatternId) (rule : PassRule)
    (priority : Option (Fin 4)) : KeepsLegal s (s.post src kind pattern rule priority) :=
  (enlist_keeps s _ _ _ _ _).trans (allocate_keeps _)

theorem withdraw_keeps (s : State) (src : Source) : KeepsLegal s (s.withdraw src) := by
  have left : KeepsLegal s
      { s with tones := { s.tones with requests := s.tones.requests.filter fun q => q.source ≠ src } } :=
        .same ⟨rfl, rfl, rfl, rfl⟩
  exact .ite (left.trans (allocate_keeps _)) (.refl s)

/-! ### The sequence of a point -/

theorem assignMark_keeps (s : State) (p : PointId) (n : Half) : KeepsLegal s (s.assignMark p n) := by
  unfold State.assignMark
  split
  · exact .refl s
  · refine .ite (.same ⟨rfl, rfl, rfl, rfl⟩) (.ite (.ite (.refl s) ?joins) (.ite ?subsequent (.refl s)))
    case joins => exact .same ⟨rfl, rfl, rfl, rfl⟩
    case subsequent => exact modSeq_keeps s p _

theorem rearm_keeps (s : State) (g : GroupId) (p : Option PointId) (command : Bool) :
    KeepsLegal s (s.rearm g p command) := .same ⟨rfl, rfl, rfl, rfl⟩

theorem rearmCheck_keeps (s : State) (p : PointId) : KeepsLegal s (s.rearmCheck p) := by
  unfold State.rearmCheck
  split
  · exact .refl s
  · exact .ite (rearm_keeps s _ _ _) (.refl s)

theorem enlistAlarm_keeps (s : State) (p : PointId) : KeepsLegal s (s.enlistAlarm p) := by
  unfold State.enlistAlarm
  split
  · exact .refl s
  · exact enlist_keeps s _ _ _ _ _

theorem alarmOccasion_keeps (s : State) (p : PointId) : KeepsLegal s (s.alarmOccasion p) :=
  .ite (allocate_keeps s) (.refl s)

theorem postRingback_keeps (s : State) (p : PointId) : KeepsLegal s (s.postRingback p) := by
  unfold State.postRingback
  split
  · exact .refl s
  · exact post_keeps s _ _ _ _ _

theorem postReminder_keeps (s : State) (p : PointId) : KeepsLegal s (s.postReminder p) := by
  unfold State.postReminder
  split
  · exact .refl s
  · exact post_keeps s _ _ _ _ _

theorem reminders_keeps (s : State) (c : BitVec 6) : KeepsLegal s (s.reminders c) :=
  .ite (.foldl postReminder_keeps _ _) (.refl s)

theorem leave_keeps (s : State) (p : PointId) (reposts : Bool) : KeepsLegal s (s.leave p reposts) := by
  have left : KeepsLegal s (if reposts then s else s.withdraw (.point p)) := .ite (.refl s) (withdraw_keeps s _)
  unfold State.leave
  split
  · exact left.trans (modSeq_keeps _ _ _)
  · exact left.trans (modSeq_keeps _ _ _)
  · exact .refl s
  · exact .refl s

theorem announce_keeps (s : State) (p : PointId) (n : Half) (o : SeqOutcome) : KeepsLegal s (s.announce p n o) := by
  have listed := ((modSeq_keeps s p fun a =>
    { a with state := .alarmUnack, alarmTime := s.time.clock, silenced := false, toneDone := false }).trans
      (assignMark_keeps _ p n)).trans (enlistAlarm_keeps _ p)
  refine (listed.trans ?_).trans (setCause_keeps _ _)
  exact .ite ((record_keeps _ _ _ _ _).trans (alarmOccasion_keeps _ p))
    ((alarmOccasion_keeps _ p).trans (record_keeps _ _ _ _ _))

theorem returnRecord_keeps (s : State) (p : PointId) (byReturn : Bool) : KeepsLegal s (s.returnRecord p byReturn) :=
  .ite (.same ⟨rfl, rfl, rfl, rfl⟩) (.refl s)

theorem enterReturnUnack_keeps (s : State) (p : PointId) (byReturn : Bool) :
    KeepsLegal s (s.enterReturnUnack p byReturn) :=
  ((((leave_keeps s p _).trans (modSeq_keeps _ _ _)).trans (postRingback_keeps _ _)).trans
    (returnRecord_keeps _ _ _)).trans (setCause_keeps _ _)

theorem enterNormal_keeps (s : State) (p : PointId) (byReturn : Bool) : KeepsLegal s (s.enterNormal p byReturn) :=
  ((((leave_keeps s p _).trans (modSeq_keeps _ _ _)).trans (returnRecord_keeps _ _ _)).trans
    (setCause_keeps _ _)).trans (rearmCheck_keeps _ _)

theorem takeMove_keeps (s : State) (p : PointId) (m : Move) (ev : SeqEvent) (n : Half) :
    KeepsLegal s (s.takeMove p m ev n) := by
  unfold State.takeMove
  split
  · exact .refl s
  · exact announce_keeps s _ _ _
  · exact (leave_keeps s p _).trans (announce_keeps _ _ _ _)
  · exact (leave_keeps s p _).trans (modSeq_keeps _ _ _)
  · exact enterReturnUnack_keeps s _ _
  · exact enterNormal_keeps s _ _

theorem applyAlarm_keeps (s : State) (p : PointId) (n : Half) : KeepsLegal s (s.applyAlarm p n) := by
  refine .ite (.same ⟨rfl, rfl, rfl, rfl⟩) ?_
  split
  · exact .same ⟨rfl, rfl, rfl, rfl⟩
  · exact takeMove_keeps s _ _ _ _

theorem applyReturn_keeps (s : State) (p : PointId) : KeepsLegal s (s.applyReturn p) := by
  refine .ite (.same ⟨rfl, rfl, rfl, rfl⟩) ?_
  split
  · exact .same ⟨rfl, rfl, rfl, rfl⟩
  · exact takeMove_keeps s _ _ _ _

theorem handOn_keeps (s : State) (p : PointId) (e : Option QualEvent) : KeepsLegal s (s.handOn p e) := by
  unfold State.handOn
  split
  · exact .refl s
  · exact applyAlarm_keeps s _ _
  · exact applyReturn_keeps s _

/-! ### Scans, shelves and the point window -/

theorem scanStep_keeps (order : List PointId) (s : State) : KeepsLegal s (scanStep order s) := by
  have scanned : KeepsLegal s s.takeScan := .same ⟨rfl, rfl, rfl, rfl⟩
  exact .ite (.ite (scanned.trans (.foldl (fun t p => handOn_keeps t p _) _ _)) scanned) (.refl s)

theorem settlePoint_keeps (s : State) (p : PointId) : KeepsLegal s (s.settlePoint p) :=
  .ite (.ite (.same ⟨rfl, rfl, rfl, rfl⟩) (applyAlarm_keeps s p _)) (.refl s)

theorem enterActive_keeps (s : State) : KeepsLegal s s.enterActive := by
  have entered : KeepsLegal s
      (({ s with ctl := { s.ctl with state := .active, settleStart := none } }).controllerRecord .arming .settleEnd) :=
    .same ⟨rfl, rfl, rfl, rfl⟩
  exact entered.trans (allocateIfLimitChanged_keeps _ _)

theorem settleEndStep_keeps (s : State) : KeepsLegal s (settleEndStep s) := by
  have scanned : KeepsLegal s s.takeScan := .same ⟨rfl, rfl, rfl, rfl⟩
  exact .ite ((scanned.trans (.foldl settlePoint_keeps _ _)).trans (enterActive_keeps _)) (.refl s)

theorem unshelveAlarm_keeps (s : State) (p : PointId) : KeepsLegal s (s.unshelveAlarm p) :=
  .ite (applyAlarm_keeps s p _) (.refl s)

theorem shelfExpiryStep_keeps (p : PointId) (s : State) : KeepsLegal s (shelfExpiryStep p s) := by
  have expired : KeepsLegal s (((s.unshelve p).setCause .shelfexp).unshelveRecord p true) := .same ⟨rfl, rfl, rfl, rfl⟩
  exact .ite (expired.trans (unshelveAlarm_keeps _ p)) (.refl s)

theorem expireShelves_keeps (s : State) : KeepsLegal s s.expireShelves :=
  .foldl (fun t p => shelfExpiryStep_keeps p t) _ s

theorem refuse_keeps (s : State) (r : Reg) (why : Reason) : KeepsLegal s (s.refuse r why) := .same ⟨rfl, rfl, rfl, rfl⟩

theorem refuseCommand_keeps (s : State) (r : Reg) (why : Reason) : KeepsLegal s (s.refuseCommand r why) :=
  .same ⟨rfl, rfl, rfl, rfl⟩

theorem pointCommand_keeps {f : State → State} (hf : ∀ s, KeepsLegal s (f s)) (s : State) :
    KeepsLegal s (s.pointCommand f) :=
  .ite (refuseCommand_keeps s _ _) (.ite (refuseCommand_keeps s _ _) (hf s))

theorem shelvePoint_keeps (s : State) (p : PointId) : KeepsLegal s (s.shelvePoint p) := by
  have shelved : KeepsLegal s
      (((s.withdraw (.point p)).modSeq p fun a =>
        { a with state := .normal, mark := .none, silenced := false, toneDone := false,
                 shelf := shelfOf s.window.shdur }).shelveRecord p false (s.point p).seq.state) :=
    (withdraw_keeps s _).trans (.same ⟨rfl, rfl, rfl, rfl⟩)
  exact .ite shelved ((shelved.trans (setCause_keeps _ _)).trans (rearmCheck_keeps _ _))

theorem shelveCommand_keeps (s : State) : KeepsLegal s (shelveCommand s) := by
  refine pointCommand_keeps (fun t => ?_) s
  exact .ite (shelvePoint_keeps t _) (.same ⟨rfl, rfl, rfl, rfl⟩)

theorem unshelveCommand_keeps (s : State) : KeepsLegal s (unshelveCommand s) := by
  refine pointCommand_keeps (fun t => ?_) s
  have recorded : KeepsLegal t ((t.unshelve t.window.psel).unshelveRecord t.window.psel false) :=
    .same ⟨rfl, rfl, rfl, rfl⟩
  exact .ite (.refl t) (recorded.trans (unshelveAlarm_keeps _ _))

theorem rearmCommand_keeps (s : State) : KeepsLegal s (rearmCommand s) :=
  .ite (refuseCommand_keeps s _ _) (.ite (rearm_keeps s _ _ _) (.same ⟨rfl, rfl, rfl, rfl⟩))

theorem writePsel_keeps (v : Byte) (s : State) : KeepsLegal s (writePsel v s) := by
  unfold writePsel
  split <;> exact .same ⟨rfl, rfl, rfl, rfl⟩

theorem writePcf_keeps (i : Fin 9) (v : Byte) (s : State) : KeepsLegal s (writePcf i v s) := by
  have written : KeepsLegal s (s.writePcfByte i v) := by
    unfold State.writePcfByte
    dsimp only
    split <;> (try split) <;> exact .same ⟨rfl, rfl, rfl, rfl⟩
  exact .ite written (refuse_keeps s _ _)

theorem writeShdur_keeps (h : WhichByte) (v : Byte) (s : State) : KeepsLegal s (writeShdur h v s) := by
  cases h <;> exact .same ⟨rfl, rfl, rfl, rfl⟩

/-! ### Actions, tests and buttons -/

/-- An action's part at one point keeps both invariants. -/
def PartKeeps (f : PointPart) : Prop := ∀ s p, KeepsLegal s (f s p).1

theorem actionMove_keeps (s : State) (p : PointId) (ev : SeqEvent) : KeepsLegal s (s.actionMove p ev).1 := by
  unfold State.actionMove
  split
  · exact .refl s
  · exact takeMove_keeps s _ _ _ _

theorem ackPoint_keeps : PartKeeps ackPoint := by
  intro s p
  unfold ackPoint
  split
  · exact actionMove_keeps s p _
  · exact .refl s

theorem silencePoint_keeps : PartKeeps silencePoint := by
  intro s p
  unfold silencePoint
  dsimp only
  split
  · exact (withdraw_keeps s (.point p)).trans
      (modSeq_keeps (s.withdraw (.point p)) p fun a => { a with silenced := true })
  · exact .refl s

theorem resetPoint_keeps : PartKeeps resetPoint := fun s p => actionMove_keeps s p _

theorem applyToScope_keeps (s : State) (c : Scope) {f : PointPart} (hf : PartKeeps f) :
    KeepsLegal s (s.applyToScope c f).1 := by
  have one (sn : State × Nat) (p : PointId) : KeepsLegal sn.1 (actOn c f sn p).1 := by
    unfold actOn
    split
    · exact hf sn.1 p
    · exact .refl sn.1
  have all (l : List PointId) : ∀ sn : State × Nat, KeepsLegal sn.1 (l.foldl (actOn c f) sn).1 := by
    induction l with
    | nil => exact fun sn => .refl sn.1
    | cons p l ih => exact fun sn => (one sn p).trans (ih (actOn c f sn p))
  exact all _ (s, 0)

theorem actionCause_keeps (s : State) (src : ActionSource) : KeepsLegal s (s.actionCause src) :=
  .ite (setCause_keeps s _) (.refl s)

theorem pointAction_keeps (s : State) (a : Action) {f : PointPart} (hf : PartKeeps f) (src : ActionSource)
    (c : Scope) : KeepsLegal s (s.pointAction a f src c) :=
  ((applyToScope_keeps s c hf).trans (record_keeps _ _ _ _ _)).trans (actionCause_keeps _ _)

theorem testStart_keeps (s : State) (panel : Bool) : KeepsLegal s (s.testStart panel) := by
  have recorded (t : TestRecord) (src : ActionSource) (n : Nat) : KeepsLegal s
      (({ s with panel := { s.panel with test := t } }).actionRecord .testStart src .all n) :=
        .same ⟨rfl, rfl, rfl, rfl⟩
  exact .ite ((recorded _ _ _).trans (actionCause_keeps _ _)) ((recorded _ _ _).trans (actionCause_keeps _ _))

theorem testEndRecord_keeps (s : State) (how : TestEnding) (t : TestRecord) : KeepsLegal s (s.testEndRecord how t) := by
  cases how <;> exact .same ⟨rfl, rfl, rfl, rfl⟩

theorem testEnd_keeps (s : State) (how : TestEnding) : KeepsLegal s (s.testEnd how) := by
  have withdrawn : KeepsLegal s s.withdrawHorn := .ite (withdraw_keeps s _) (.refl s)
  have idle : KeepsLegal s
      { s.withdrawHorn with panel := { s.withdrawHorn.panel with test := s.panel.test.ended } } :=
    withdrawn.trans (.same ⟨rfl, rfl, rfl, rfl⟩)
  have ended := (idle.trans (testEndRecord_keeps _ how s.panel.test)).trans (setCause_keeps _ .testend)
  exact .ite (ended.trans (setCause_keeps _ _)) ended

theorem leaveActive_keeps (s : State) : KeepsLegal s s.leaveActive := .ite (testEnd_keeps s _) (.refl s)

theorem hornTestStep_keeps (s : State) : KeepsLegal s (hornTestStep s) := by
  have joined : KeepsLegal s
      { s with panel := { s.panel with test := { s.panel.test with state := .lampAndHornTest } } } :=
        .same ⟨rfl, rfl, rfl, rfl⟩
  exact .ite (joined.trans (post_keeps _ _ _ _ _ _)) (.refl s)

theorem testTimeoutStep_keeps (s : State) : KeepsLegal s (testTimeoutStep s) := .ite (testEnd_keeps s _) (.refl s)

theorem hostAction_keeps (s : State) (a : Action) : KeepsLegal s (s.hostAction a) := by
  cases a with
  | ack => exact pointAction_keeps s _ ackPoint_keeps _ _
  | silence => exact pointAction_keeps s _ silencePoint_keeps _ _
  | reset => exact pointAction_keeps s _ resetPoint_keeps _ _
  | testStart => exact testStart_keeps s _
  | testEnd => exact .ite (.same ⟨rfl, rfl, rfl, rfl⟩) (testEnd_keeps s _)

theorem actionCommand_keeps (a : Action) (s : State) : KeepsLegal s (actionCommand a s) :=
  .ite (refuseCommand_keeps s _ _) (.ite (refuseCommand_keeps s _ _) (hostAction_keeps s a))

theorem press_keeps (s : State) (b : Button) : KeepsLegal s (s.press b) := by
  refine .ite ?_ (.refl s)
  cases b with
  | ack => exact pointAction_keeps s _ ackPoint_keeps _ _
  | sil => exact pointAction_keeps s _ silencePoint_keeps _ _
  | rst => exact pointAction_keeps s _ resetPoint_keeps _ _
  | tst => exact .ite (.refl s) (testStart_keeps s _)

theorem releaseButton_keeps (s : State) (b : Button) : KeepsLegal s (s.releaseButton b) := by
  cases b with
  | tst => exact .ite (testEnd_keeps s _) (.refl s)
  | ack | sil | rst => exact .refl s

theorem buttonSampleStep_keeps (order : List Button) (s : State) : KeepsLegal s (buttonSampleStep order s) := by
  have filtered : KeepsLegal s
      { s with panel := { s.panel with filters := s.filtersAfter, sampleDue := false } } := .same ⟨rfl, rfl, rfl, rfl⟩
  exact .ite (filtered.trans (.foldl
    (fun t b => .ite (.refl t) (.ite (press_keeps t b) (releaseButton_keeps t b))) _ _)) (.refl s)

/-! ### The cadence -/

theorem cycleStart_keeps (s : State) (c : BitVec 6) (into : Nat) : KeepsLegal s (s.cycleStart c into) := by
  refine .trans ?_ (reminders_keeps _ c)
  exact .same ⟨rfl, rfl, rfl, rfl⟩

theorem eighthEndStep_keeps (s : State) : KeepsLegal s (eighthEndStep s) :=
  .ite (.ite (cycleStart_keeps s _ _) (.same ⟨rfl, rfl, rfl, rfl⟩)) (.refl s)

theorem lineReleaseStep_keeps (s : State) : KeepsLegal s (lineReleaseStep s) :=
  .ite (.same ⟨rfl, rfl, rfl, rfl⟩) (.refl s)

theorem takePulse_keeps (s : State) (n : Nat) (marker : Bool) : KeepsLegal s (s.takePulse n marker) := by
  have started := cycleStart_keeps s (if marker then 0 else s.time.cycle + 1) n
  exact .ite (started.trans (.same ⟨rfl, rfl, rfl, rfl⟩)) (started.trans (.same ⟨rfl, rfl, rfl, rfl⟩))

theorem pulseStep_keeps (s : State) : KeepsLegal s (pulseStep s) := by
  have cleared : KeepsLegal s s.clearLowRun := .same ⟨rfl, rfl, rfl, rfl⟩
  unfold pulseStep
  split
  · split
    · exact cleared.trans (takePulse_keeps _ _ _)
    · exact cleared.trans (takePulse_keeps _ _ _)
    · exact cleared
  all_goals exact .refl s

theorem missStep_keeps (s : State) : KeepsLegal s (missStep s) := by
  have counted : KeepsLegal s { s with time := { s.time with misses := s.time.misses + 1 } } :=
    .same ⟨rfl, rfl, rfl, rfl⟩
  have lost (t : State) : KeepsLegal t t.loseLock := .ite (.same ⟨rfl, rfl, rfl, rfl⟩) (.refl t)
  exact .ite ((counted.trans (cycleStart_keeps _ _ _)).trans (lost _)) (.refl s)

/-! ### Writes of the store (R115, R116) -/

/-- The store holds legal headers and legal steps alone. -/
def TablesLegal (st : Store) : Prop :=
  (∀ p : PatternId, HeaderLegal (st.headers[p])) ∧ ∀ n : Fin 256, (st.steps[n]).Legal

theorem storeLegal_iff (s : State) :
    s.StoreLegal ↔
      TablesLegal s.store ∧ s.xfer.queue.length ≤ 4 ∧ ∀ e ∈ s.xfer.queue, e.transfer.Legal := by
  simp only [State.StoreLegal, TablesLegal, Store.header, and_assoc]

theorem writeStep_legal {st : Store} (h : TablesLegal st) (n : Nat) {t : Step} (legal : t.Legal) :
    TablesLegal (st.writeStep n t) := by
  refine ⟨h.1, fun k => ?_⟩
  simp only [Store.writeStep, Fin.getElem_fin, Vector.getElem_setIfInBounds]
  split
  · exact legal
  · exact h.2 k

/-- Emptying a header, as an initialisation does, is legal (R116). -/
theorem emptyHeader_legal {st : Store} (h : TablesLegal st) (n : Nat) :
    TablesLegal { st with headers := st.headers.setIfInBounds n none } := by
  refine ⟨fun p => ?_, h.2⟩
  simp only [Fin.getElem_fin, Vector.getElem_setIfInBounds]
  split
  · exact nofun
  · exact h.1 p

theorem writeHeader_legal {st : Store} (h : TablesLegal st) (p : PatternId) {x : Header} (legal : HeaderLegal x) :
    TablesLegal (st.writeHeader p x) := by
  refine ⟨fun q => ?_, h.2⟩
  simp only [Store.writeHeader, Fin.getElem_fin, Vector.getElem_set]
  split
  · exact legal
  · exact h.1 q

theorem initWrite_legal {st : Store} (h : TablesLegal st) (n : Nat) : TablesLegal (st.initWrite n) := by
  unfold Store.initWrite
  split
  · exact h
  · split
    · exact h
    · split
      · exact emptyHeader_legal h _
      · split
        · exact writeStep_legal h _ initial_legal
        · exact h

/-- The next access of a legal entry leaves the tables legal (R131, R132). -/
theorem storeAfter_legal {e : Entry} {st : Store} (h : TablesLegal st) (entry : e.transfer.Legal) :
    TablesLegal (e.storeAfter st) := by
  unfold Entry.storeAfter
  cases held : e.transfer with
  | commitHeader x =>
    rw [held] at entry
    exact writeHeader_legal h e.id entry
  | commitSteps first steps =>
    rw [held] at entry
    exact writeStep_legal h _ (getD_legal entry.2 _)
  | commitBoth x first steps =>
    rw [held] at entry
    obtain ⟨header, -, legal⟩ := entry
    dsimp only
    split
    · exact writeStep_legal h _ (getD_legal legal _)
    · exact writeHeader_legal h e.id header
  | fetch => exact h

theorem after_legal {e : Entry} {st : Store} (entry : e.transfer.Legal) : (e.after st).transfer.Legal := by
  unfold Entry.after
  cases held : e.transfer with
  | fetch => trivial
  | commitHeader | commitSteps | commitBoth => rw [held] at entry; exact entry

/-! ### Transfers -/

/-- A change of the store and the queue that keeps both legal; the voices play on. -/
theorem KeepsLegal.of_store {s t : State} (voices : t.voices = s.voices) (h : s.StoreLegal → t.StoreLegal) :
    KeepsLegal s t := by
  refine ⟨h, fun _ inRange => ?_⟩
  unfold State.VoicesInRange at inRange ⊢
  rw [voices]
  exact inRange

theorem accessDrdat_keeps (a : Access) (s : State) : KeepsLegal s (accessDrdat a s) := by
  cases a <;> exact .same ⟨rfl, rfl, rfl, rfl⟩

/-- A request joins the queue below its capacity, with what the checks of R127 let pass (R126 to R129). -/
theorem transferRequest_keeps (r : TransferRequest) (s : State) : KeepsLegal s (transferRequest r s) := by
  unfold transferRequest
  split
  · exact refuseCommand_keeps s _ _
  · next accepted =>
    refine .of_store rfl fun h => ?_
    obtain ⟨tables, -, entries⟩ := (storeLegal_iff s).mp h
    simp only [State.requestRefusal, check_eq_none_iff] at accepted
    obtain ⟨-, room, -, draft⟩ := accepted
    refine (storeLegal_iff _).mpr ⟨tables, ?_, fun e he => ?_⟩
    · simp only [State.enqueue, List.length_append, List.length_singleton]
      simp only [Config.transferCapacity] at room
      omega
    · obtain old | new := List.mem_append.mp he
      · exact entries e old
      · rw [List.mem_singleton.mp new]
        exact transferOf_legal draft

theorem makeAccess_keeps (s : State) : KeepsLegal s s.makeAccess := by
  unfold State.makeAccess
  split
  · exact .refl s
  · next e rest queue =>
    refine .of_store rfl fun h => ?_
    obtain ⟨tables, length, entries⟩ := (storeLegal_iff s).mp h
    rw [queue] at length entries
    have head := entries e List.mem_cons_self
    refine (storeLegal_iff _).mpr ⟨storeAfter_legal tables head, length, fun x hx => ?_⟩
    obtain rfl | tail := List.mem_cons.mp hx
    · exact after_legal head
    · exact entries x (List.mem_cons_of_mem _ tail)

theorem lateAccess_keeps (s : State) : KeepsLegal s s.lateAccess := by
  unfold State.lateAccess
  split
  · exact .refl s
  · exact .ite (makeAccess_keeps s) (.refl s)

theorem engineTick_keeps (s : State) (late : Bool) : KeepsLegal s (s.engineTick late) := by
  unfold State.engineTick
  split
  · exact .refl s
  · exact .ite (.refl s) (.ite (.same ⟨rfl, rfl, rfl, rfl⟩) (makeAccess_keeps s))

/-- The head entry leaves the queue, its last access made or not needed. -/
theorem dequeue_legal {s t : State} {e : Entry} {rest : List Entry} (queue : s.xfer.queue = e :: rest)
    (tables : TablesLegal s.store → e.transfer.Legal → TablesLegal t.store) (left : t.xfer.queue = rest)
    (h : s.StoreLegal) : t.StoreLegal := by
  obtain ⟨legal, length, entries⟩ := (storeLegal_iff s).mp h
  rw [queue] at length entries
  refine (storeLegal_iff t).mpr ⟨tables legal (entries e List.mem_cons_self), ?_, fun x hx => ?_⟩
  · rw [left]
    exact Nat.le_trans (Nat.le_succ _) length
  · rw [left] at hx
    exact entries x (List.mem_cons_of_mem _ hx)

theorem commitCompletionStep_keeps (s : State) : KeepsLegal s (commitCompletionStep s) := by
  unfold commitCompletionStep
  split
  · exact .refl s
  · next e rest queue =>
    have completed : KeepsLegal s (s.completeCommit e rest) :=
      .of_store rfl (dequeue_legal queue storeAfter_legal rfl)
    split
    · exact .refl s
    all_goals exact .ite completed (.refl s)

theorem fetchCompletionStep_keeps (s : State) : KeepsLegal s (fetchCompletionStep s) := by
  unfold fetchCompletionStep
  split
  · exact .refl s
  · next e rest queue =>
    split
    · exact .ite (.of_store rfl (dequeue_legal queue (fun tables _ => tables) rfl)) (.refl s)
    all_goals exact .refl s

/-- An empty queue holds nothing that is not legal. -/
theorem emptied_legal {s t : State} (headers : t.store.headers = s.store.headers)
    (steps : t.store.steps = s.store.steps) (queue : t.xfer.queue = []) (h : s.StoreLegal) : t.StoreLegal := by
  obtain ⟨⟨legalHeaders, legalSteps⟩, -⟩ := (storeLegal_iff s).mp h
  rw [storeLegal_iff, TablesLegal, headers, steps, queue]
  exact ⟨⟨legalHeaders, legalSteps⟩, Nat.zero_le _, nofun⟩

theorem abandonTransfers_keeps (s : State) : KeepsLegal s s.abandonTransfers := by
  unfold State.abandonTransfers
  dsimp only
  split <;> exact .of_store rfl (emptied_legal rfl rfl rfl)

/-! ### The initialisation, the controller commands and the supply -/

theorem initDoneStep_keeps (s : State) : KeepsLegal s (initDoneStep s) := .ite (.same ⟨rfl, rfl, rfl, rfl⟩) (.refl s)

theorem startCommand_keeps (s : State) : KeepsLegal s (startCommand s) :=
  .ite (.same ⟨rfl, rfl, rfl, rfl⟩) (refuseCommand_keeps s _ _)

/-- Voices that are all IDLE hold no record. -/
theorem idle_inRange {s : State} (idle : s.voices = Vector.replicate 4 none) : s.VoicesInRange := by
  intro v p hp
  simp [idle] at hp

theorem clearRun_keeps (s : State) : KeepsLegal s s.clearRun :=
  .of_voices rfl rfl rfl fun _ _ => idle_inRange rfl

theorem enterSetup_keeps (s : State) : KeepsLegal s s.enterSetup := .same ⟨rfl, rfl, rfl, rfl⟩

theorem controllerRecord_keeps (s : State) (left : CtlState) (why : CtlReason) :
    KeepsLegal s (s.controllerRecord left why) := .same ⟨rfl, rfl, rfl, rfl⟩

theorem stopCommand_keeps (s : State) : KeepsLegal s (stopCommand s) :=
  .ite (((leaveActive_keeps s).trans (clearRun_keeps _)).trans
    ((enterSetup_keeps _).trans (controllerRecord_keeps _ _ _))) (refuseCommand_keeps s _ _)

theorem holdNow_keeps (s : State) : KeepsLegal s s.holdNow := by
  have held : KeepsLegal s.leaveActive s.leaveActive.enterHold := .same ⟨rfl, rfl, rfl, rfl⟩
  exact (((leaveActive_keeps s).trans held).trans (allocateIfLimitChanged_keeps _ _)).trans
    (controllerRecord_keeps _ _ _)

theorem holdCommand_keeps (s : State) : KeepsLegal s (holdCommand s) :=
  .ite ((expireShelves_keeps s).trans (holdNow_keeps _)) (refuseCommand_keeps s _ _)

theorem resumeCommand_keeps (s : State) : KeepsLegal s (resumeCommand s) := by
  have left : KeepsLegal s s.leaveHold := .same ⟨rfl, rfl, rfl, rfl⟩
  exact .ite ((left.trans (allocateIfLimitChanged_keeps _ _)).trans (controllerRecord_keeps _ _ _))
    (refuseCommand_keeps s _ _)

theorem softresetCommand_keeps (s : State) : KeepsLegal s (softresetCommand s) := by
  have latch (t : State) : KeepsLegal t t.releaseLatch := .same ⟨rfl, rfl, rfl, rfl⟩
  have supply (t : State) : KeepsLegal t t.supplyOk := .same ⟨rfl, rfl, rfl, rfl⟩
  have flags (t : State) : KeepsLegal t t.clearFlags := .same ⟨rfl, rfl, rfl, rfl⟩
  exact .ite (refuseCommand_keeps s _ _)
    ((((leaveActive_keeps s).trans (abandonTransfers_keeps _)).trans ((latch _).trans (clearRun_keeps _))).trans
      (((supply _).trans (enterSetup_keeps _)).trans ((flags _).trans (controllerRecord_keeps _ _ _))))

theorem supplyChange_keeps (s : State) (dest : SupplyState) : KeepsLegal s (s.supplyChange dest) := by
  refine .trans ?_ (allocateIfLimitChanged_keeps _ _)
  exact .same ⟨rfl, rfl, rfl, rfl⟩

theorem supplySampleStep_keeps (s : State) : KeepsLegal s (supplySampleStep s) := by
  have counted : KeepsLegal s { s with supply := s.supply.counted s.pins.vdrv } := .same ⟨rfl, rfl, rfl, rfl⟩
  refine .ite ?_ (.refl s)
  dsimp only
  split
  · exact counted
  · exact counted.trans (supplyChange_keeps _ _)

/-! ### Sounds -/

/-- A step boundary reads a legal store: the next step, a new pass, or the end of the sound (R150 to R153). -/
theorem stepBoundaryStep_keeps (v : VoiceId) (s : State) : KeepsLegal s (stepBoundaryStep v s) := by
  unfold stepBoundaryStep
  split
  · exact .refl s
  · next p playing =>
    refine .ite ?_ (.refl s)
    split
    · exact ((idleVoice_keeps s v).trans (soundMissing_keeps _ _)).trans (allocate_keeps _)
    · next header found =>
      split
      · next q on =>
        refine setVoice_keeps s v _ fun ⟨headers, steps, _⟩ inRange x hx => ?_
        cases hx
        exact boundary_inRange (inRange v p playing) steps (headers _ _ found) on
      · have removed (t : State) : KeepsLegal t (t.removeSound p.sound) := .same ⟨rfl, rfl, rfl, rfl⟩
        exact ((idleVoice_keeps s v).trans (removed _)).trans (allocate_keeps _)

theorem envelopeDecayStep_keeps (v : VoiceId) (s : State) : KeepsLegal s (envelopeDecayStep v s) := by
  unfold envelopeDecayStep
  split
  · exact .refl s
  · next p playing =>
    refine .ite (setVoice_keeps s v _ fun _ inRange x hx => ?_) (.refl s)
    cases hx
    exact decay_inRange (inRange v p playing)

theorem chimeCommand_keeps (stop : Bool) (s : State) : KeepsLegal s (chimeCommand stop s) :=
  .ite (refuseCommand_keeps s _ _) (.ite (withdraw_keeps s _) (post_keeps s _ _ _ _ _))

theorem writeVcnt_keeps (v : Byte) (s : State) : KeepsLegal s (writeVcnt v s) := by
  have written : KeepsLegal s { s with tones := { s.tones with vcnt := v } } := .same ⟨rfl, rfl, rfl, rfl⟩
  exact .ite (written.trans (allocateIfLimitChanged_keeps _ _)) (refuse_keeps s _ _)

/-! ### The tick -/

/-- Every event left over from the tick before keeps both (log 4). -/
theorem takeDue_keeps (s : State) : KeepsLegal s s.takeDue := by
  have boundaries (t : State) : KeepsLegal t ((List.finRange 4).foldl (fun t v => stepBoundaryStep v t) t) :=
    .foldl (fun t v => stepBoundaryStep_keeps v t) _ t
  have decays (t : State) : KeepsLegal t ((List.finRange 4).foldl (fun t v => envelopeDecayStep v t) t) :=
    .foldl (fun t v => envelopeDecayStep_keeps v t) _ t
  unfold State.takeDue
  dsimp only
  refine .trans ?_ (lateAccess_keeps _)
  refine .trans ?_ (supplySampleStep_keeps _)
  refine .trans ?_ (decays _)
  refine .trans ?_ (boundaries _)
  refine .trans ?_ (fetchCompletionStep_keeps _)
  refine .trans ?_ (commitCompletionStep_keeps _)
  refine .trans ?_ (missStep_keeps _)
  refine .trans ?_ (pulseStep_keeps _)
  refine .trans ?_ (lineReleaseStep_keeps _)
  refine .trans ?_ (eighthEndStep_keeps _)
  refine .trans ?_ (testTimeoutStep_keeps _)
  refine .trans ?_ (hornTestStep_keeps _)
  refine .trans ?_ (buttonSampleStep_keeps [] _)
  refine .trans ?_ (expireShelves_keeps _)
  refine .trans ?_ (settleEndStep_keeps _)
  refine .trans ?_ (scanStep_keeps [] _)
  exact initDoneStep_keeps s

/-- Every block counts the tick: an initialisation writes its record, a voice its remaining time (R116, R148). -/
theorem advance_keeps (s : State) (p : Pins) : KeepsLegal s (s.advance p) where
  store h := by
    obtain ⟨tables, queue⟩ := (storeLegal_iff s).mp h
    refine (storeLegal_iff _).mpr ⟨?_, queue⟩
    simp only [State.advance]
    split
    · exact initWrite_legal tables _
    · exact tables
  voices _ inRange := mapVoices_inRange (mapVoice_inRange fun _ => tick_inRange) inRange

theorem tickStep_keeps (p : Pins) (late : Bool) (s : State) : KeepsLegal s (tickStep p late s) :=
  ((takeDue_keeps s).trans (advance_keeps _ p)).trans (engineTick_keeps _ late)

/-! ### Resets (R117, R196) -/

/-- Power-on reset leaves empty headers, initial steps and nothing under way (R116). -/
theorem powerOn_keeps (s : State) : KeepsLegal s (powerOn s) where
  store _ := by
    refine (storeLegal_iff _).mpr ⟨⟨fun p => ?_, fun n => ?_⟩, Nat.zero_le _, nofun⟩
    · simp [powerOn, Store.reset, HeaderLegal]
    · simpa [powerOn, Store.reset] using initial_legal
  voices _ _ := idle_inRange rfl

/-- A hardware reset keeps the store's tables, and leaves nothing under way (R117). -/
theorem hardwareValues_keeps (s : State) (low : Bool) (init : Option InitKind) :
    KeepsLegal s (s.hardwareValues low init) where
  store := emptied_legal rfl rfl rfl
  voices _ _ := idle_inRange rfl

/-! ### Writes of the register window -/

/-- A write of a register whose value is an index: taken below the bound, refused from it on. -/
theorem index_keeps {n : Nat} {v : Byte} {s : State} {f : v.toNat < n → State} (r : Reg)
    (hf : ∀ h, KeepsLegal s (f h)) :
    KeepsLegal s (if h : v.toNat < n then f h else s.refuse r .badValue) := by
  split
  · exact hf _
  · exact refuse_keeps s _ _

theorem writeSrole_keeps (v : Byte) (s : State) : KeepsLegal s (writeSrole v s) := by
  refine .ite (refuse_keeps s _ _) ?_
  split <;> exact .same ⟨rfl, rfl, rfl, rfl⟩

theorem writeTdiv_keeps (half : WhichByte) (v : Byte) (s : State) : KeepsLegal s (writeTdiv half v s) := by
  refine .ite (refuse_keeps s _ _) ?_
  cases half with
  | low => exact .same ⟨rfl, rfl, rfl, rfl⟩
  | high => exact .ite (refuse_keeps s _ _) (.same ⟨rfl, rfl, rfl, rfl⟩)

theorem writeScnper_keeps (v : Byte) (s : State) : KeepsLegal s (writeScnper v s) := by
  refine .ite ?_ (refuse_keeps s _ _)
  split <;> exact .same ⟨rfl, rfl, rfl, rfl⟩

theorem writeAscp_keeps (v : Byte) (s : State) : KeepsLegal s (writeAscp v s) := by
  unfold writeAscp
  split <;> exact .same ⟨rfl, rfl, rfl, rfl⟩

theorem writeCcmd_keeps (v : Byte) (s : State) : KeepsLegal s (writeCcmd v s) := by
  unfold writeCcmd
  split
  · exact startCommand_keeps s
  · exact stopCommand_keeps s
  · exact holdCommand_keeps s
  · exact resumeCommand_keeps s
  · exact softresetCommand_keeps s
  · exact refuseCommand_keeps s _ _

theorem writePcmd_keeps (v : Byte) (s : State) : KeepsLegal s (writePcmd v s) := by
  unfold writePcmd
  split
  · exact shelveCommand_keeps s
  · exact unshelveCommand_keeps s
  · exact refuseCommand_keeps s _ _

theorem writeActn_keeps (v : Byte) (s : State) : KeepsLegal s (writeActn v s) := by
  unfold writeActn
  split
  case h_6 => exact refuseCommand_keeps s _ _
  all_goals exact actionCommand_keeps _ s

theorem writeXreq_keeps (v : Byte) (s : State) : KeepsLegal s (writeXreq v s) := by
  unfold writeXreq
  split
  case h_5 => exact refuseCommand_keeps s _ _
  all_goals exact transferRequest_keeps _ s

theorem writeChctl_keeps (v : Byte) (s : State) : KeepsLegal s (writeChctl v s) :=
  .ite (chimeCommand_keeps _ s) (.ite (chimeCommand_keeps _ s) (refuseCommand_keeps s _ _))

/-- A write of any register (R200). -/
theorem writeRegister_keeps (r : Reg) (v : Byte) (s : State) : KeepsLegal s (writeRegister r v s) := by
  cases r with
  | ccmd => exact writeCcmd_keeps v s
  | tdiv half => exact writeTdiv_keeps half v s
  | srole => exact writeSrole_keeps v s
  | psel => exact writePsel_keeps v s
  | pcf i => exact writePcf_keeps i v s
  | pcmd => exact writePcmd_keeps v s
  | shdur half => exact writeShdur_keeps half v s
  | scnper => exact writeScnper_keeps v s
  | ascp => exact writeAscp_keeps v s
  | actn => exact writeActn_keeps v s
  | gcmd => exact .ite (rearmCommand_keeps s) (refuseCommand_keeps s _ _)
  | drdat => exact accessDrdat_keeps (.write v) s
  | xreq => exact writeXreq_keeps v s
  | vcnt => exact writeVcnt_keeps v s
  | chctl => exact writeChctl_keeps v s
  | evcmd => exact .ite (.same ⟨rfl, rfl, rfl, rfl⟩) (refuseCommand_keeps s _ _)
  | elen => exact .ite (.ite (.same ⟨rfl, rfl, rfl, rfl⟩) (refuse_keeps s _ _)) (refuse_keeps s _ _)
  | gsel | dradr | rbadr | vsel | htpat => exact index_keeps _ fun _ => .same ⟨rfl, rfl, rfl, rfl⟩
  | setl | opts | lmplv | tstlv | eccap | ecolv | echys | evthr =>
    exact .ite (.same ⟨rfl, rfl, rfl, rfl⟩) (refuse_keeps s _ _)
  | agrd | plock | xid | chpat | evmsk | ics | ien | ilv => exact .same ⟨rfl, rfl, rfl, rfl⟩
  | csts | rfs0 | rfs1 | rclk | cstat | cycnt | pst | scnnum | lout | pbtn | tsts | gst | xstat0 | xstat1 | rbdat
  | vst | rqcnt | sgst | sglev | ev | evcnt | evnxt0 | evnxt1 | ivec | evlat => exact .refl s

theorem busWrite_keeps (a : BitVec 7) (v : Byte) (s : State) : KeepsLegal s (busWrite a v s) := by
  unfold busWrite
  split
  · exact .refl s
  · exact writeRegister_keeps _ v s

theorem readEv0_keeps (s : State) : KeepsLegal s (readEv0 s) := by
  unfold readEv0
  split <;> exact .same ⟨rfl, rfl, rfl, rfl⟩

theorem readEv9_keeps (s : State) : KeepsLegal s (readEv9 s) := by
  unfold readEv9
  split <;> exact .same ⟨rfl, rfl, rfl, rfl⟩

theorem readFirst_keeps (r : Reg) (ps : List Partner) (s : State) : KeepsLegal s (readFirst r ps s) :=
  .same ⟨rfl, rfl, rfl, rfl⟩

/-! ### Every command -/

/-- A meaning answers a next state, and keeps both invariants. -/
def AnswersLegal (s : State) (o : Out) : Prop := ∃ t, o = .next t ∧ KeepsLegal s t

theorem KeepsLegal.ran {f : State → State} {s : State} (h : KeepsLegal s (f s)) : AnswersLegal s (ran f s) :=
  ⟨_, rfl, .ite (.refl s) h⟩

/-- Every command of the table keeps the store, the queue and the voices' records legal. -/
theorem exec_legal (c : Instr) (s : State) : AnswersLegal s (exec c s) := by
  cases c with
  | powerOnReset => exact ⟨_, rfl, powerOn_keeps s⟩
  | hardwareReset | resetInputAsserted => exact ⟨_, rfl, hardwareValues_keeps s _ _⟩
  | tick p late => exact ⟨_, rfl, .ite (.same ⟨rfl, rfl, rfl, rfl⟩) (tickStep_keeps p late s)⟩
  | initDone => exact (initDoneStep_keeps s).ran
  | eighthEnd => exact (eighthEndStep_keeps s).ran
  | lineRelease => exact (lineReleaseStep_keeps s).ran
  | pulseRecognised => exact (pulseStep_keeps s).ran
  | miss => exact (missStep_keeps s).ran
  | sroleWrite v => exact (writeSrole_keeps v s).ran
  | tdivWrite half v => exact (writeTdiv_keeps half v s).ran
  | registerWrite a v => exact (busWrite_keeps a v s).ran
  | start => exact (startCommand_keeps s).ran
  | stop => exact (stopCommand_keeps s).ran
  | hold => exact (holdCommand_keeps s).ran
  | resume => exact (resumeCommand_keeps s).ran
  | softreset => exact (softresetCommand_keeps s).ran
  | scan order => exact (scanStep_keeps order s).ran
  | settleEnd => exact (settleEndStep_keeps s).ran
  | rearm => exact (rearmCommand_keeps s).ran
  | shelve => exact (shelveCommand_keeps s).ran
  | unshelve => exact (unshelveCommand_keeps s).ran
  | shelfExpiry p => exact (shelfExpiryStep_keeps p s).ran
  | buttonSample order => exact (buttonSampleStep_keeps order s).ran
  | ack | silence | reset | testStart | testEnd => exact (actionCommand_keeps _ s).ran
  | hornTestBegin => exact (hornTestStep_keeps s).ran
  | testTimeout => exact (testTimeoutStep_keeps s).ran
  | pselWrite v => exact (writePsel_keeps v s).ran
  | pcfWrite i v => exact (writePcf_keeps i v s).ran
  | shdurWrite half v => exact (writeShdur_keeps half v s).ran
  | commitHeader | commitSteps | commitBoth | fetch => exact (transferRequest_keeps _ s).ran
  | commitCompletion => exact (commitCompletionStep_keeps s).ran
  | fetchCompletion => exact (fetchCompletionStep_keeps s).ran
  | drdatAccess a => exact (accessDrdat_keeps a s).ran
  | chimeStart | chimeStop => exact (chimeCommand_keeps _ s).ran
  | vcntWrite v => exact (writeVcnt_keeps v s).ran
  | stepBoundary v => exact (stepBoundaryStep_keeps v s).ran
  | envelopeDecay v => exact (envelopeDecayStep_keeps v s).ran
  | supplySample => exact (supplySampleStep_keeps s).ran
  | ev0Read => exact (readEv0_keeps s).ran
  | ev9Read => exact (readEv9_keeps s).ran
  | scnnumLowRead | rclk0Read | cstatRead | shelfSecondsLowRead | gst3Read | xstat0Read | vst0Read | lout0Read
  | sgstRead | evnxt0Read | rfs0Read => exact (readFirst_keeps _ _ s).ran
  | rbdatRead | flush | icsWrite | holdPartnerByteRead => exact KeepsLegal.ran (.same ⟨rfl, rfl, rfl, rfl⟩)

/-- A step keeps both: the command at the front does, and an empty queue idles. -/
theorem step_keepsLegal {s t : State} (taken : step s = .next t) : KeepsLegal s t := by
  unfold step at taken
  split at taken
  · cases taken
    exact .refl s
  · next c rest _ =>
    have front : KeepsLegal s { s with pending := rest } := .same ⟨rfl, rfl, rfl, rfl⟩
    obtain ⟨u, answer, legal⟩ := exec_legal c { s with pending := rest }
    obtain rfl : u = t := Host.Outcome.next.inj (answer.symm.trans taken)
    exact front.trans legal

/-- Settles O52, command by command: each write of the store, the queue and the voices is legal. -/
theorem stepKeepsStoreLegal : Obligations.StepKeepsStoreLegal :=
  ⟨fun _ _ legal taken => (step_keepsLegal taken).store legal,
    fun _ _ legal inRange taken => (step_keepsLegal taken).voices legal inRange⟩

end Sys2Proof.Machine.PatternStore
end

section
/-! PROOFS. The store access of the Transfer Engine at a tick, form by form. -/

namespace Sys2Proof.Machine.StoreAccess

/-! ### The next access of an entry (R130 to R132) -/

/-- The next access of `e` at the store `st` is not its last: it leaves the store `st'`, and the entry APPLYING with
one access more and `x` held. -/
structure NextAccess (e : Entry) (st st' : Store) (x : Transfer) : Prop where
  notLast : e.nextIsLast st = false
  store : e.storeAfter st = st'
  entry : e.after st = { e with progress := some (e.progress.getD 0 + 1), transfer := x }

/-- COMMIT_STEPS writes its next step (R131). -/
theorem nextAccess_commitSteps {e : Entry} {first : Nat} {steps : List Step}
    (held : e.transfer = .commitSteps first steps) (more : e.progress.getD 0 + 1 < steps.length) (st : Store) :
    NextAccess e st
      { st with steps := st.steps.setIfInBounds (first + e.progress.getD 0) (steps.getD (e.progress.getD 0) .initial) }
      e.transfer where
  notLast := by simpa [Entry.nextIsLast, Entry.accesses, Entry.made, held] using more
  store := by simp [Entry.storeAfter, held, Store.writeStep, stepCopy, Entry.made]
  entry := by simp [Entry.after, held, Entry.made]

/-- COMMIT_BOTH writes its next step, while steps are left (R131). -/
theorem nextAccess_commitBoth {e : Entry} {h : Header} {first : Nat} {steps : List Step}
    (held : e.transfer = .commitBoth h first steps) (more : e.progress.getD 0 < steps.length) (st : Store) :
    NextAccess e st
      { st with steps := st.steps.setIfInBounds (first + e.progress.getD 0) (steps.getD (e.progress.getD 0) .initial) }
      e.transfer where
  notLast := by simpa [Entry.nextIsLast, Entry.accesses, Entry.made, held] using more
  store := by simp [Entry.storeAfter, held, Store.writeStep, stepCopy, Entry.made, more]
  entry := by simp [Entry.after, held, Entry.made]

/-- A fetch first reads the header (R132). -/
theorem nextAccess_fetchHeader {e : Entry} {h : ValidHeader} {st : Store} (held : e.transfer = .fetch none)
    (begins : e.progress.getD 0 = 0) (found : st.headers[e.id] = some h) (steps : 1 ≤ h.count) :
    NextAccess e st st (.fetch (some (some h, []))) where
  notLast := by
    have read : st.header e.id = some h := found
    have more : h.count ≠ 0 := Nat.one_le_iff_ne_zero.mp steps
    simpa [Entry.nextIsLast, Entry.accesses, fetchAccesses, Entry.made, held, begins, read] using more
  store := by simp [Entry.storeAfter, held]
  entry := by
    have read : st.header e.id = some h := found
    simp [Entry.after, held, Entry.made, fetchAfter, read]

/-- With the header read, a fetch reads its next step (R132). -/
theorem nextAccess_fetchStep {e : Entry} {h : ValidHeader} {got : List Step}
    (held : e.transfer = .fetch (some (some h, got))) (more : e.progress.getD 0 < h.count) (st : Store) :
    NextAccess e st st
      (.fetch (some (some h, got ++ [st.step (h.first + (e.progress.getD 0 - 1))]))) where
  notLast := by simpa [Entry.nextIsLast, Entry.accesses, fetchAccesses, Entry.made, held] using more
  store := by simp [Entry.storeAfter, held]
  entry := by simp [Entry.after, held, Entry.made, fetchAfter]

/-- The next access is the last of its entry, form by form (the table of R130). -/
theorem nextIsLast_of_form {e : Entry} {st : Store}
    (h : (∃ x, e.transfer = .commitHeader x) ∨
      (∃ first steps, e.transfer = .commitSteps first steps ∧ steps.length ≤ e.progress.getD 0 + 1) ∨
      (∃ x first steps, e.transfer = .commitBoth x first steps ∧ steps.length ≤ e.progress.getD 0) ∨
      (e.transfer = .fetch none ∧ st.headers[e.id] = none) ∨
      (∃ x got, e.transfer = .fetch (some (some x, got)) ∧ x.count ≤ e.progress.getD 0)) :
    e.nextIsLast st = true := by
  obtain ⟨x, held⟩ | ⟨first, steps, held, few⟩ | ⟨x, first, steps, held, few⟩ | ⟨held, empty⟩ |
    ⟨x, got, held, few⟩ := h
  · simp [Entry.nextIsLast, Entry.accesses, held]
  · simpa [Entry.nextIsLast, Entry.accesses, Entry.made, held] using few
  · simpa [Entry.nextIsLast, Entry.accesses, Entry.made, held] using few
  · have read : st.header e.id = none := empty
    simp [Entry.nextIsLast, Entry.accesses, fetchAccesses, held, read]
  · simpa [Entry.nextIsLast, Entry.accesses, fetchAccesses, Entry.made, held] using few

/-! ### The engine -/

/-- The access of the head entry. -/
theorem makeAccess_of_next {s : State} {e : Entry} {rest : List Entry} (queue : s.xfer.queue = e :: rest) {st : Store}
    {x : Transfer} (next : NextAccess e s.store st x) :
    s.makeAccess =
      { s with
        store := st
        xfer := { s.xfer with
          queue := { e with progress := some (e.progress.getD 0 + 1), transfer := x } :: rest
          accessDue := false } } := by
  simp only [State.makeAccess, queue, next.store, next.entry]

/-- No access is made in INIT (R135). -/
theorem engineTick_in_init {s : State} (init : s.ctl.state = .init) (late : Bool) : s.engineTick late = s := by
  unfold State.engineTick
  split <;> simp [init]

/-- The last access, and every access of a late tick, is marked due (logs 7 and 17). -/
theorem engineTick_defers {s : State} {e : Entry} {rest : List Entry} (queue : s.xfer.queue = e :: rest)
    (run : s.ctl.state ≠ .init) {late : Bool} (h : (e.nextIsLast s.store || late) = true) :
    s.engineTick late = { s with xfer := { s.xfer with accessDue := true } } := by
  simp only [State.engineTick, queue, if_neg run, if_pos h]

/-- Another access is made at once. -/
theorem engineTick_makes {s : State} {e : Entry} {rest : List Entry} (queue : s.xfer.queue = e :: rest)
    (run : s.ctl.state ≠ .init) (h : e.nextIsLast s.store = false) : s.engineTick false = s.makeAccess := by
  simp [State.engineTick, queue, run, h]

/-- An access left over that is not the last is made (log 7). -/
theorem lateAccess_makes {s : State} {e : Entry} {rest : List Entry} (queue : s.xfer.queue = e :: rest)
    (due : s.xfer.accessDue = true) (h : e.nextIsLast s.store = false) : s.lateAccess = s.makeAccess := by
  simp [State.lateAccess, queue, due, h]

theorem makeAccess_resetLow (s : State) : s.makeAccess.resetLow = s.resetLow := by
  unfold State.makeAccess
  split <;> rfl

theorem lateAccess_resetLow (s : State) : s.lateAccess.resetLow = s.resetLow := by
  unfold State.lateAccess
  split
  · rfl
  · split
    · exact makeAccess_resetLow s
    · rfl

/-! ### The tick -/

theorem exec_tick {s : State} (running : s.resetLow = false) (p : Pins) (late : Bool) :
    exec (.tick p late) s = .next ((s.takeDue.advance p).engineTick late) := by
  simp [exec, execTick, running, tickStep]

/-- Outside INIT the counting of a tick leaves the store alone (R116). -/
theorem advance_store {s : State} (run : s.ctl.state ≠ .init) (p : Pins) : (s.advance p).store = s.store :=
  if_neg run

/-- A tick with nothing overdue, at which the head entry makes the access `next`. -/
theorem exec_tick_makes {s : State} {e : Entry} {rest : List Entry} (running : s.resetLow = false)
    (nothing : s.takeDue = s) (queue : s.xfer.queue = e :: rest) (run : s.ctl.state ≠ .init) {st : Store} {x : Transfer}
    (next : NextAccess e s.store st x) (p : Pins) :
    ∃ t, exec (.tick p false) s = .next t ∧ t.store = st ∧
      t.xfer = { s.xfer with
        queue := { e with progress := some (e.progress.getD 0 + 1), transfer := x } :: rest, accessDue := false } := by
  have store : (s.advance p).store = s.store := advance_store run p
  have counted : NextAccess e (s.advance p).store st x := by rwa [store]
  refine ⟨_, exec_tick running p false, ?_⟩
  rw [nothing, engineTick_makes (s := s.advance p) queue run counted.notLast,
    makeAccess_of_next (s := s.advance p) queue counted]
  exact ⟨rfl, rfl⟩

/-- A tick with nothing overdue, at which the access is left to the completion or to the end of the tick. -/
theorem exec_tick_defers {s : State} {e : Entry} {rest : List Entry} (running : s.resetLow = false)
    (nothing : s.takeDue = s) (queue : s.xfer.queue = e :: rest) (run : s.ctl.state ≠ .init) (p : Pins) {late : Bool}
    (h : (e.nextIsLast s.store || late) = true) :
    ∃ t, exec (.tick p late) s = .next t ∧ t.store = s.store ∧ t.xfer = { s.xfer with accessDue := true } := by
  have store : (s.advance p).store = s.store := advance_store run p
  refine ⟨_, exec_tick running p late, ?_⟩
  rw [nothing, engineTick_defers (s := s.advance p) queue run (by rwa [store])]
  exact ⟨store, rfl⟩

/-- Settles O39: each form's next access, at the tick, at its end or at the completion. -/
theorem engineAccesses : Obligations.EngineAccesses := by
  constructor
  · intro p s e rest running nothing queue n makes
    refine ⟨fun run => ?_, fun run last late => ?_, fun init late => ?_⟩
    · have made {st : Store} {x : Transfer} (next : NextAccess e s.store st x) : makes false st x :=
        exec_tick_makes running nothing queue run next p
      refine ⟨fun first steps held more => made (nextAccess_commitSteps held more _),
        fun h first steps held more => made (nextAccess_commitBoth held more _),
        fun h held begins found steps => made (nextAccess_fetchHeader held begins found steps),
        fun h got held _ more => made (nextAccess_fetchStep held more _), ?_⟩
      exact exec_tick_defers running nothing queue run p (Bool.or_true _)
    · exact exec_tick_defers running nothing queue run p (by rw [nextIsLast_of_form last, Bool.true_or])
    · refine ⟨_, exec_tick running p late, ?_⟩
      rw [nothing, engineTick_in_init (s := s.advance p) init]
      rfl
  · intro s e rest queue due n made
    have makes {st : Store} {x : Transfer} (next : NextAccess e s.store st x) : made st x :=
      (lateAccess_makes queue due next.notLast).trans (makeAccess_of_next queue next)
    refine ⟨fun first steps held more => makes (nextAccess_commitSteps held more _),
      fun h first steps held more => makes (nextAccess_commitBoth held more _),
      fun h held begins found steps => makes (nextAccess_fetchHeader held begins found steps),
      fun h got held _ more => makes (nextAccess_fetchStep held more _), ?_⟩
    intro running left nothing p late
    have lateRunning : s.lateAccess.resetLow = false := (lateAccess_resetLow s).trans running
    calc exec (.tick p late) s
      _ = .next ((s.takeDue.advance p).engineTick late) := exec_tick running p late
      _ = .next ((s.lateAccess.takeDue.advance p).engineTick late) :=
        congrArg (fun t : State => Host.Outcome.next ((t.advance p).engineTick late)) (left.trans nothing.symm)
      _ = exec (.tick p late) s.lateAccess := (exec_tick lateRunning p late).symm

end Sys2Proof.Machine.StoreAccess
end

section
/-! PROOFS. The resets: power-on, the reset input held low, and its release (R117, R196). -/

namespace Sys2Proof.Machine.Resets

/-- While the reset input is low, a command that is no reset and no tick does nothing (R196; log 22). -/
theorem ran_of_resetLow {s : State} (low : s.resetLow = true) (f : State → State) : ran f s = .next s := by
  simp [ran, low]

/-- With the reset input high, power-on reset begins a full initialisation (R116, R196). -/
theorem powerOn_of_high {s : State} (high : s.resetLow = false) :
    powerOn s = { State.reset with pending := s.pending, pins := s.pins } := by
  simp only [powerOn, high]
  rfl

/-- With it low, the initialisation waits for the release (log 21). -/
theorem powerOn_of_low {s : State} (low : s.resetLow = true) :
    (powerOn s).store.init = none ∧ (powerOn s).resetLow = true ∧ (powerOn s).store.stepsInitialised = false :=
  ⟨if_pos low, low, rfl⟩

theorem exec_of_resetLow {s : State} (low : s.resetLow = true) (c : Instr) (power : c ≠ .powerOnReset)
    (release : c ≠ .hardwareReset) (asserted : c ≠ .resetInputAsserted) (tick : ∀ p l, c ≠ .tick p l) :
    exec c s = .next s := by
  cases c with
  | powerOnReset => exact absurd rfl power
  | hardwareReset => exact absurd rfl release
  | resetInputAsserted => exact absurd rfl asserted
  | tick p l => exact absurd rfl (tick p l)
  | _ => exact ran_of_resetLow low _

/-- Settles O4, reset by reset. -/
theorem resetCommands : Obligations.ResetCommands := by
  refine ⟨fun s high => ?_, fun s low => ⟨powerOn s, rfl, powerOn_of_low low⟩, fun s => rfl, fun s => rfl,
    fun c s low power release asserted tick => exec_of_resetLow low c power release asserted tick, fun p l s low => ?_⟩
  · exact congrArg Host.Outcome.next (powerOn_of_high high)
  · simp [exec, execTick, low]

end Sys2Proof.Machine.Resets
end

section
/-! PROOFS. The Transfer Engine's registers and the transfer queue: what a request is refused for and what it queues,
what a completion leaves, and the bytes of the draft and of the readback image (chapter 7). -/

namespace Sys2Proof.Machine.TransferQueue

/-! ### The frame of a command -/

/-- With the reset input high, a command has its effect (R196). -/
theorem ran_of_running {s : State} (running : s.resetLow = false) (f : State → State) : ran f s = .next (f s) := by
  simp [ran, running]

/-! ### Bits of a byte -/

theorem bits_eq (v : Byte) (lo len : Nat) : bits v lo len = (v.extractLsb' lo len).toNat := by
  rw [bits, BitVec.extractLsb'_toNat, Nat.shiftRight_eq_div_pow]

theorem bits_one_iff (v : Byte) (lo : Nat) : bits v lo 1 = 1 ↔ v.getLsbD lo = true := by
  rw [BitVec.getLsbD, Nat.testBit_eq_decide_div_mod_eq]
  exact decide_eq_true_iff.symm

/-! ### The data registers (R122, R133) -/

/-- An address advances by one, and from 67 to 0. -/
theorem address_advances (x : Fin 68) : x + 1 = if h : x.val < 67 then ⟨x.val + 1, by omega⟩ else 0 := by
  apply Fin.ext
  rw [Fin.val_add]
  split
  · next inside => exact Nat.mod_eq_of_lt (Nat.succ_lt_succ inside)
  · next last =>
    have : x.val = 67 := by omega
    rw [this]
    rfl

/-- Settles O41: each access, with its address advanced. -/
theorem dataRegisters : Obligations.DataRegisters := by
  intro s v running next
  have advances (x : Fin 68) : x + 1 = next x := address_advances x
  refine ⟨(ran_of_running running _).trans ?_, (ran_of_running running _).trans ?_, (ran_of_running running _).trans ?_⟩
  · simp only [accessDrdat, advances, State.drives]
  · simp only [accessDrdat, advances]
  · simp only [readRbdat, advances, State.drives]

/-! ### Requests (R126 to R128) -/

/-- The request writes a valid header. -/
abbrev WritesHeader (d : Image) (r : TransferRequest) : Prop :=
  (r = .commitHeader ∨ r = .commitBoth) ∧ d.valid = true

abbrev WritesSteps (r : TransferRequest) : Prop := r = .commitSteps ∨ r = .commitBoth

abbrev RepeatOk (d : Image) (r : TransferRequest) : Prop := WritesHeader d r → d.repeatCode ≤ 15

abbrev CountOk (d : Image) (r : TransferRequest) : Prop := WritesHeader d r ∨ WritesSteps r → Within 1 32 d.count

abbrev RangeOk (d : Image) (r : TransferRequest) : Prop :=
  WritesHeader d r ∨ WritesSteps r → d.first + d.count ≤ 256

abbrev StepsOk (d : Image) (r : TransferRequest) : Prop := WritesSteps r → ∀ i, i < d.count → d.stepLegal i = true

theorem check_congr {c d : Prop} [Decidable c] [Decidable d] {why : Reason} {x y : Option Reason} (h : c ↔ d)
    (rest : x = y) : (if c then some why else x) = if d then some why else y :=
  ite_congr (propext h) (fun _ => rfl) (fun _ => rest)

/-- The draft checks, each as the condition it makes sure of (the table of R127). -/
theorem draftRefusal_eq (d : Image) (r : TransferRequest) :
    draftRefusal d r =
      if ¬RepeatOk d r then some .badRepeat
      else if ¬CountOk d r then some .badCount
      else if ¬RangeOk d r then some .badRange
      else if ¬StepsOk d r then some .badStep
      else none := by
  unfold draftRefusal
  refine check_congr ?_ (check_congr ?_ (check_congr ?_ (check_congr ?_ rfl)))
  · simp only [Bool.and_eq_true, Bool.or_eq_true, decide_eq_true_eq, Classical.not_imp, Nat.not_le]
  · simp only [Bool.and_eq_true, Bool.or_eq_true, decide_eq_true_eq, Classical.not_imp, Bool.not_eq_true',
      ← Bool.not_eq_true]
  · simp only [Bool.and_eq_true, Bool.or_eq_true, decide_eq_true_eq, Classical.not_imp, Nat.not_le]
  · simp only [Bool.and_eq_true, Bool.or_eq_true, decide_eq_true_eq, Classical.not_imp, Bool.not_eq_true',
      ← Bool.not_eq_true, List.all_eq_true, List.mem_range]

theorem requestRefusal_of_named {s : State} (run : s.ctl.state ≠ .init) (room : s.xfer.queue.length < 4)
    (named : s.xfer.xid.toNat < 32) (r : TransferRequest) : s.requestRefusal r = draftRefusal s.xfer.draft r := by
  simp [State.requestRefusal, Config.transferCapacity, run, Nat.not_le.mpr room, Nat.not_le.mpr named]

/-- The third check (R126): the pattern's number. -/
theorem requestRefusal_badId {s : State} (run : s.ctl.state ≠ .init) (room : s.xfer.queue.length < 4)
    (beyond : 32 ≤ s.xfer.xid.toNat) (r : TransferRequest) : s.requestRefusal r = some .badId := by
  simp [State.requestRefusal, Config.transferCapacity, run, Nat.not_le.mpr room, beyond]

theorem transferRequest_of_refusal {s : State} {r : TransferRequest} {why : Reason}
    (refused : s.requestRefusal r = some why) : transferRequest r s = s.refuseCommand .xreq why := by
  simp only [transferRequest, refused]

theorem transferRequest_of_accepted {s : State} {r : TransferRequest} (accepted : s.requestRefusal r = none) :
    transferRequest r s = s.enqueue r := by
  simp only [transferRequest, accepted]

/-- An accepted request's entry, with the pattern that XID names (R128). -/
theorem enqueue_named {s : State} {p : PatternId} (named : s.xfer.xid.toNat = p.val) (r : TransferRequest) :
    s.enqueue r = { s with xfer := { s.xfer with queue := s.xfer.queue ++
      [{ id := p, transfer := transferOf s.xfer.draft r, progress := none }] } } := by
  have id : Fin.ofNat 32 s.xfer.xid.toNat = p := by rw [named]; exact Fin.ofNat_val_eq_self p
  rw [State.enqueue, id]

/-! ### The draft (R123, R124) -/

theorem valid_eq (d : Image) : d.valid = d[0].getLsbD 0 := by
  rw [Bool.eq_iff_iff, Image.valid, decide_eq_true_iff]
  exact bits_one_iff _ _

/-- The header image of the draft, read by its bits (R123). -/
theorem header_eq (d : Image) :
    d.header =
      if d[0].getLsbD 0 then some
        { rep := .ofCode d[1].toNat
          envelope := if d[0].getLsbD 1 then .decay (.ofCode (d[0].extractLsb' 2 2).toNat) else .off
          count := d[2].toNat
          first := d[3].toNat }
      else none := by
  simp only [Image.header, valid_eq, Image.envelope, bits_one_iff, bits_eq d[0] 2 2]
  rfl

theorem at_eq (d : Image) (n : Fin 68) : d.at n = d[n] := by
  simp [Image.at, List.getD_eq_getElem?_getD]

theorem stepLegal_iff (d : Image) (i : Nat) :
    d.stepLegal i = true ↔ ((d.at (4 + 2 * i)).extractLsb' 0 5).toNat ≤ 16 ∧ d.at (5 + 2 * i) ≠ 0 := by
  simp only [Image.stepLegal, bits_eq, decide_eq_true_iff]

theorem step_of_tone {d : Image} {i : Nat} {t : Fin 16} (code : ((d.at (4 + 2 * i)).extractLsb' 0 5).toNat = t.val) :
    d.step i =
      { tone := some t
        level := ((d.at (4 + 2 * i)).extractLsb' 5 3).toNat + 1
        duration := (d.at (5 + 2 * i)).toNat } := by
  simp [Image.step, bits_eq, code]

/-- Code 16 is REST (R124). -/
theorem step_of_rest {d : Image} {i : Nat} (code : ((d.at (4 + 2 * i)).extractLsb' 0 5).toNat = 16) :
    d.step i =
      { tone := none
        level := ((d.at (4 + 2 * i)).extractLsb' 5 3).toNat + 1
        duration := (d.at (5 + 2 * i)).toNat } := by
  simp [Image.step, bits_eq, code]

/-- Settles O38: the checks in their order, the entry, and the draft's bytes. -/
theorem transferRequests : Obligations.TransferRequests := by
  constructor
  · intro s r running d header steps room named repeatOk countOk rangeOk stepsOk issue refusedFor
    have issued : issue = .next (transferRequest r s) := by
      cases r <;> exact ran_of_running running _
    have refused {why : Reason} (h : s.requestRefusal r = some why) : refusedFor why :=
      issued.trans (congrArg Host.Outcome.next (transferRequest_of_refusal h))
    have checked : named → s.requestRefusal r =
        if ¬repeatOk then some .badRepeat
        else if ¬countOk then some .badCount
        else if ¬rangeOk then some .badRange
        else if ¬stepsOk then some .badStep
        else none := fun ⟨⟨run, free⟩, below⟩ => (requestRefusal_of_named run free below r).trans (draftRefusal_eq d r)
    refine ⟨fun init => refused (if_pos init), fun run full => refused ((if_neg run).trans (if_pos full)),
      fun ⟨run, free⟩ beyond => refused (requestRefusal_badId run free beyond r), fun h bad => refused ?_,
      fun h rep bad => refused ?_, fun h rep count bad => refused ?_, fun h rep count range bad => refused ?_,
      fun h rep count range legal p id => ?_⟩
    · rw [checked h, if_pos bad]
    · rw [checked h, if_neg (not_not_intro rep), if_pos bad]
    · rw [checked h, if_neg (not_not_intro rep), if_neg (not_not_intro count), if_pos bad]
    · rw [checked h, if_neg (not_not_intro rep), if_neg (not_not_intro count), if_neg (not_not_intro range), if_pos bad]
    · have accepted : s.requestRefusal r = none := by
        rw [checked h, if_neg (not_not_intro rep), if_neg (not_not_intro count), if_neg (not_not_intro range),
          if_neg (not_not_intro legal)]
      rw [issued, transferRequest_of_accepted accepted, enqueue_named id]
      cases r <;> rfl
  · intro d
    refine ⟨valid_eq d, header_eq d, ?_⟩
    intro i b duration level
    have code : d.at (4 + 2 * i.val) = b := at_eq d ⟨4 + 2 * i, by omega⟩
    have lasts : d.at (5 + 2 * i.val) = duration := at_eq d ⟨5 + 2 * i, by omega⟩
    refine ⟨?_, fun t tone => ?_, fun rest => ?_⟩
    · rw [stepLegal_iff, code, lasts]
    · rw [step_of_tone (t := t) (by rwa [code]), code, lasts]
    · rw [step_of_rest (by rwa [code]), code, lasts]

/-! ### Completions (R131, R132) -/

/-- A commit at its last access completes (R131). -/
theorem commitCompletionStep_of_last {s : State} {e : Entry} {rest : List Entry} (queue : s.xfer.queue = e :: rest)
    (due : s.xfer.accessDue = true) (last : e.nextIsLast s.store = true) (commits : e.transfer.request ≠ .fetch) :
    commitCompletionStep s = s.completeCommit e rest := by
  simp only [commitCompletionStep, queue, due, last]
  split
  · next held => simp [held, Transfer.request] at commits
  all_goals rfl

/-- A fetch at its last access completes (R132). -/
theorem fetchCompletionStep_of_last {s : State} {e : Entry} {rest : List Entry} {r : Option (Header × List Step)}
    (queue : s.xfer.queue = e :: rest) (due : s.xfer.accessDue = true) (last : e.nextIsLast s.store = true)
    (held : e.transfer = .fetch r) : fetchCompletionStep s = s.completeFetch e rest r := by
  simp [fetchCompletionStep, queue, due, last, held]

/-- The last write of a commit: the store it leaves, and the source and detail of its record (R131). -/
structure LastWrite (e : Entry) (st st' : Store) (source written : Nat) : Prop where
  last : e.nextIsLast st = true
  commits : e.transfer.request ≠ .fetch
  store : e.storeAfter st = st'
  source : e.transfer.request.code + field 3 (bit e.transfer.headerValid) = source
  written : e.transfer.stepsWritten = written

theorem lastWrite_commitHeader {e : Entry} {h : Header} (held : e.transfer = .commitHeader h) (st : Store) :
    LastWrite e st { st with headers := st.headers.set e.id h } (1 + 8 * bit h.isSome) 0 where
  last := StoreAccess.nextIsLast_of_form (.inl ⟨h, held⟩)
  commits := by simp [held, Transfer.request]
  store := by simp [Entry.storeAfter, held, Store.writeHeader]
  source := by simp [held, Transfer.request, TransferRequest.code, Transfer.headerValid, field, Nat.mul_comm]
  written := by simp [held, Transfer.stepsWritten]

theorem lastWrite_commitSteps {e : Entry} {first : Nat} {steps : List Step}
    (held : e.transfer = .commitSteps first steps) (all : e.progress.getD 0 + 1 = steps.length) (st : Store) :
    LastWrite e st
      { st with steps := st.steps.setIfInBounds (first + e.progress.getD 0) (steps.getD (e.progress.getD 0) .initial) }
      2 steps.length where
  last := StoreAccess.nextIsLast_of_form (.inr (.inl ⟨first, steps, held, Nat.le_of_eq all.symm⟩))
  commits := by simp [held, Transfer.request]
  store := by simp [Entry.storeAfter, held, Store.writeStep, stepCopy, Entry.made]
  source := by simp [held, Transfer.request, TransferRequest.code, Transfer.headerValid, field, bit]
  written := by simp [held, Transfer.stepsWritten]

theorem lastWrite_commitBoth {e : Entry} {h : Header} {first : Nat} {steps : List Step}
    (held : e.transfer = .commitBoth h first steps) (all : e.progress.getD 0 = steps.length) (st : Store) :
    LastWrite e st { st with headers := st.headers.set e.id h } (3 + 8 * bit h.isSome) steps.length where
  last := StoreAccess.nextIsLast_of_form (.inr (.inr (.inl ⟨h, first, steps, held, Nat.le_of_eq all.symm⟩)))
  commits := by simp [held, Transfer.request]
  store := by simp [Entry.storeAfter, held, Store.writeHeader, Entry.made, all]
  source := by simp [held, Transfer.request, TransferRequest.code, Transfer.headerValid, field, Nat.mul_comm]
  written := by simp [held, Transfer.stepsWritten]

theorem exec_commitCompletion {s : State} {e : Entry} {rest : List Entry} (running : s.resetLow = false)
    (queue : s.xfer.queue = e :: rest) (due : s.xfer.accessDue = true) {st : Store} {source written : Nat}
    (write : LastWrite e s.store st source written) :
    exec .commitCompletion s =
      .next (({ s with store := st, xfer := { s.xfer with queue := rest, accessDue := false } }.record .patternUpdated
        (some e.id) source written).setCause .xdone) := by
  calc exec .commitCompletion s
    _ = .next (commitCompletionStep s) := ran_of_running running _
    _ = .next (s.completeCommit e rest) :=
      congrArg Host.Outcome.next (commitCompletionStep_of_last queue due write.last write.commits)
    _ = _ := by rw [State.completeCommit, write.store, write.source, write.written]

theorem exec_fetchCompletion {s : State} {e : Entry} {rest : List Entry} (running : s.resetLow = false)
    (queue : s.xfer.queue = e :: rest) (due : s.xfer.accessDue = true) (last : e.nextIsLast s.store = true)
    {r : Option (Header × List Step)} (held : e.transfer = .fetch r) {h : Header} {got : List Step}
    (read : fetchAfter e.id e.made s.store r = (h, got)) :
    exec .fetchCompletion s =
      .next ({ s with xfer :=
        { s.xfer with queue := rest, accessDue := false, image := imageOf h got, replaced := true } }.setCause
          .rbrdy) := by
  calc exec .fetchCompletion s
    _ = .next (fetchCompletionStep s) := ran_of_running running _
    _ = .next (s.completeFetch e rest r) :=
      congrArg Host.Outcome.next (fetchCompletionStep_of_last queue due last held)
    _ = _ := by simp only [State.completeFetch, read]

/-! ### The readback image (R132) -/

theorem imageOf_getElem (h : Header) (steps : List Step) (j : Fin 68) :
    (imageOf h steps)[j] = ((headerImage h ++ (steps.map stepImage).flatten)[j.val]?).getD 0 := by
  simp [imageOf]

theorem headerImage_length (h : Header) : (headerImage h).length = 4 := by
  cases h <;> rfl

/-- Every step image is two bytes. -/
theorem stepImages_length (steps : List Step) : (steps.map stepImage).flatten.length = 2 * steps.length := by
  induction steps with
  | nil => rfl
  | cons t steps ih => simp [ih, stepImage]; omega

theorem imageOf_header (h : Header) (steps : List Step) (j : Fin 4) :
    (imageOf h steps)[(⟨j, by omega⟩ : Fin 68)] = ((headerImage h)[j.val]?).getD 0 := by
  rw [imageOf_getElem, List.getElem?_append_left (by rw [headerImage_length]; exact j.isLt)]

/-- Behind the header image stand the step images, from byte 4 on. -/
theorem imageOf_steps (h : Header) (steps : List Step) {j : Fin 68} {n : Nat} (place : j.val = 4 + n) :
    (imageOf h steps)[j] = ((steps.map stepImage).flatten[n]?).getD 0 := by
  have behind : (headerImage h).length ≤ 4 + n := by rw [headerImage_length]; omega
  rw [imageOf_getElem, place, List.getElem?_append_right behind, headerImage_length, Nat.add_sub_cancel_left]

/-- Byte `k` of step image `i` stands at place 2i + k of the step images. -/
theorem stepImages_getElem? {steps : List Step} {i : Nat} {t : Step} (found : steps[i]? = some t) (k : Fin 2) :
    (steps.map stepImage).flatten[2 * i + k.val]? = (stepImage t)[k.val]? := by
  have pair (u : Step) : (stepImage u).length = 2 := rfl
  induction steps generalizing i with
  | nil => cases found
  | cons u steps ih =>
    rw [List.map_cons, List.flatten_cons]
    cases i with
    | zero =>
      cases found
      rw [Nat.mul_zero, Nat.zero_add, List.getElem?_append_left (by rw [pair]; exact k.isLt)]
    | succ i =>
      have behind : (stepImage u).length ≤ 2 * (i + 1) + k.val := by rw [pair]; omega
      have place : 2 * (i + 1) + k.val - (stepImage u).length = 2 * i + k.val := by rw [pair]; omega
      rw [List.getElem?_append_right behind, place]
      exact ih found

/-- Byte `k` of step image `i` stands at byte 4 + 2i + k of the image. -/
theorem imageOf_step (h : Header) {steps : List Step} {i : Nat} {t : Step} (found : steps[i]? = some t) (k : Fin 2)
    {j : Fin 68} (place : j.val = 4 + (2 * i + k.val)) :
    (imageOf h steps)[j] = ((stepImage t)[k.val]?).getD 0 := by
  rw [imageOf_steps h steps place, stepImages_getElem? found k]

/-- Beyond the step images the image is zero. -/
theorem imageOf_beyond (h : Header) (steps : List Step) {j : Fin 68} (beyond : 4 + 2 * steps.length ≤ j.val) :
    (imageOf h steps)[j] = 0 := by
  have outside : (headerImage h ++ (steps.map stepImage).flatten).length ≤ j.val := by
    rwa [List.length_append, headerImage_length, stepImages_length]
  rw [imageOf_getElem, List.getElem?_eq_none outside, Option.getD_none]

/-- The image of the empty header is zero throughout. -/
theorem imageOf_empty (j : Fin 68) : (imageOf none [])[j] = 0 := by
  by_cases inside : j.val < 4
  · rw [imageOf_header none [] ⟨j, inside⟩]
    have zeros : ∀ k : Fin 4, ((headerImage none)[k.val]?).getD 0 = 0 := by decide
    exact zeros ⟨j, inside⟩
  · exact imageOf_beyond none [] (Nat.not_lt.mp inside)

/-- Settles O40: each form's last access, and the bytes of the readback image. -/
theorem transferCompletions : Obligations.TransferCompletions := by
  refine ⟨?_, imageOf_empty, ?_⟩
  · intro s e rest running queue due n committed fetched
    have commits {st : Store} {source steps : Nat} (write : LastWrite e s.store st source steps) :
        committed st source steps := exec_commitCompletion running queue due write
    refine ⟨fun h held => commits (lastWrite_commitHeader held _),
      fun first steps held all => commits (lastWrite_commitSteps held all _),
      fun h first steps held all => commits (lastWrite_commitBoth held all _),
      fun held _ empty => ?_, fun h got held _ all => ?_⟩
    · have last := StoreAccess.nextIsLast_of_form (.inr (.inr (.inr (.inl ⟨held, empty⟩))))
      exact exec_fetchCompletion running queue due last held (congrArg (·, []) empty)
    · have last := StoreAccess.nextIsLast_of_form (st := s.store)
        (.inr (.inr (.inr (.inr ⟨h, got, held, Nat.le_of_eq all.symm⟩))))
      exact exec_fetchCompletion running queue due last held rfl
  · intro h steps image
    refine ⟨?_, ?_, imageOf_header _ steps 2, imageOf_header _ steps 3, fun i t found => ⟨?_, ?_⟩,
      fun j beyond => imageOf_beyond _ steps beyond⟩
    · refine (imageOf_header (some h) steps 0).trans ?_
      cases envelope : h.envelope with
      | off => simp [headerImage, envelope]
      | decay interval => cases interval <;> simp [headerImage, envelope, field, Interval.code]
    · exact imageOf_header (some h) steps 1
    · refine (imageOf_step _ found 0 rfl).trans ?_
      cases tone : t.tone <;> simp [stepImage, field, tone, Nat.mul_comm]
    · have place : 5 + 2 * i.val = 4 + (2 * i.val + 1) := by omega
      exact imageOf_step _ found 1 place

/-! ### XID (R125) -/

/-- The annunciation of points has no part in the Transfer Engine. -/
theorem frame_xfer {s t : State} (h : AnnunciationOnly s t) : t.xfer = s.xfer := by
  obtain ⟨⟨-, -, -, -, -, -, -, -, -, -, -, xfer, -⟩, -⟩ := (annunciationOnly_iff s t).mp h
  exact xfer

theorem withdrawHorn_xfer (s : State) : s.withdrawHorn.xfer = s.xfer := by
  unfold State.withdrawHorn
  split
  · exact frame_xfer (s.withdraw_frame _)
  · rfl

theorem testEndRecord_xfer (s : State) (how : TestEnding) (t : TestRecord) :
    (s.testEndRecord how t).xfer = s.xfer := by
  cases how <;> rfl

theorem testEnd_xfer (s : State) (how : TestEnding) : (s.testEnd how).xfer = s.xfer := by
  have recorded := (testEndRecord_xfer
    { s.withdrawHorn with panel := { s.withdrawHorn.panel with test := s.panel.test.ended } } how s.panel.test).trans
    (withdrawHorn_xfer s)
  unfold State.testEnd
  dsimp only
  split <;> exact recorded

theorem leaveActive_xfer (s : State) : s.leaveActive.xfer = s.xfer := by
  unfold State.leaveActive
  split
  · exact testEnd_xfer s _
  · rfl

/-- Abandoning the queue leaves XID (R136). -/
theorem abandonTransfers_xid (s : State) : s.abandonTransfers.xfer.xid = s.xfer.xid := by
  unfold State.abandonTransfers
  dsimp only
  split <;> rfl

theorem stopCommand_xid (s : State) : (stopCommand s).xfer.xid = s.xfer.xid := by
  unfold stopCommand
  split
  · simp [leaveActive_xfer]
  · rfl

theorem softresetCommand_xid (s : State) : (softresetCommand s).xfer.xid = s.xfer.xid := by
  unfold softresetCommand
  split
  · rfl
  · simp [abandonTransfers_xid, leaveActive_xfer]

theorem regAt_xid : regAt 0x3A = some .xid := by decide

/-- Settles O34: the write, the read, the resets, SOFTRESET and STOP, and the check of a request. -/
theorem xidHoldsItsByte : Obligations.XidHoldsItsByte := by
  refine ⟨fun s v running => ?_, fun s => ?_, fun s t reset => ?_, fun s t stopped running => ?_,
    fun s running run room beyond c request => ?_⟩
  · refine (ran_of_running running _).trans ?_
    simp only [busWrite, regAt_xid, writeRegister, writeXid]
  · simp only [State.readByte, regAt_xid]
    rfl
  · obtain answer | answer := reset <;> cases answer <;> rfl
  · obtain answer | answer := stopped
    · obtain rfl := Host.Outcome.next.inj ((ran_of_running running softresetCommand).symm.trans answer)
      exact softresetCommand_xid s
    · obtain rfl := Host.Outcome.next.inj ((ran_of_running running stopCommand).symm.trans answer)
      exact stopCommand_xid s
  · have refused (r : TransferRequest) : ran (transferRequest r) s = .next (s.refuseCommand .xreq .badId) :=
      (ran_of_running running _).trans
        (congrArg Host.Outcome.next (transferRequest_of_refusal (requestRefusal_badId run room beyond r)))
    simp only [List.mem_cons, List.not_mem_nil, or_false] at request
    obtain rfl | rfl | rfl | rfl := request
    all_goals exact refused _

end Sys2Proof.Machine.TransferQueue
end

section
/-! PROOFS. The Event Queue and the Interrupt Unit: the insertion of a record and its causes, the reads of the queue,
the flags and the vector (chapter 10, R198, R199). -/

namespace Sys2Proof.Machine.EventQueueRules

/-! ### The insertion of a record (R176, R178 to R181) -/

theorem record_of_masked {s : State} {k : Kind} (masked : s.evq.masked k = true) (p : Option (Fin 32)) (a b : Nat) :
    s.record k p a b = s := by
  simp [State.record, EventQueue.offer, EventQueue.offerCauses, Irq.setAll, masked]

/-- The queue after an insertion: the record joins at the newest end, and a full queue has lost its oldest (R178). -/
theorem record_evq_of_unmasked {s : State} {k : Kind} (logged : s.evq.masked k = false) (p : Option (Fin 32))
    (a b : Nat) :
    (s.record k p a b).evq = { s.evq with
      records := (if s.evq.records.length < 64 then s.evq.records else s.evq.records.tail) ++
        [{ kind := k, seq := s.evq.seq, time := s.time.clock, point := p, source := byte a, detail := byte b }]
      seq := s.evq.seq + 1 } := by
  simp only [State.record, EventQueue.offer, logged]
  rfl

/-- The causes of an insertion (the table of R179, and R180). -/
theorem mem_offerCauses {q : EventQueue} {k : Kind} (logged : q.masked k = false) (c : Cause) :
    c ∈ q.offerCauses k ↔
      c = .evqne ∧ q.records = [] ∨ c = .evqov ∧ 64 ≤ q.records.length ∨
        c = .evqth ∧ q.threshold.toNat ≤ min (q.records.length + 1) 64 := by
  have capacity : Config.eventCapacity = 64 := rfl
  simp [EventQueue.offerCauses, List.mem_ite_nil_right, logged, and_comm, ← capacity]

/-- Settles O47, masked and not. -/
theorem recordInsertion : Obligations.RecordInsertion := by
  refine fun s k p source detail => ⟨fun masked => record_of_masked masked p source detail, fun logged => ?_⟩
  refine ⟨rfl, ?_, Irq.setAll_keeps _ _, fun c => ?_⟩
  · rw [record_evq_of_unmasked logged, List.drop_one]
  · rw [State.flag_record]
    simp only [mem_offerCauses logged]

/-! ### Reading the queue (R182 to R184) -/

/-- Settles O48, read by read: the queue empty or not, the latch held or not, the numbers equal or not. -/
theorem eventReads : Obligations.EventReads := by
  intro s running
  have answers (f : State → State) : ran f s = .next (f s) := TransferQueue.ran_of_running running f
  refine ⟨fun empty => (answers _).trans ?_, fun r rest holds => (answers _).trans ?_,
    fun released => (answers _).trans ?_, fun l r rest held holds same => (answers _).trans ?_,
    fun l r rest held holds other => (answers _).trans ?_, answers _⟩
  · simp only [readEv0, empty, State.drives]
  · simp only [readEv0, holds, State.drives]
  · simp only [readEv9, released, State.drives]
  · simp only [readEv9, held, holds, removeIfLatched, if_pos same, State.drives]
  · simp only [readEv9, held, holds, removeIfLatched, if_neg other, State.drives]

/-! ### Clearing flags (R185, R198) -/

theorem evqne_mask_bit (c : Cause) : Cause.evqne.mask.getLsbD (c.code - 1) = decide (c = .evqne) := by
  cases c <;> rfl

theorem place_lt (c : Cause) : c.code - 1 < 15 := by
  cases c <;> decide

/-- A flag after a clearing: a 1 at its place clears it, but EVQNE while the queue holds a record (R185). -/
theorem flag_clear (u : Irq) (m : BitVec 15) (queueHolds : Bool) (c : Cause) :
    (u.clear m queueHolds).flag c =
      (u.flag c && (!m.getLsbD (c.code - 1) || decide (c = .evqne ∧ queueHolds = true))) := by
  cases queueHolds with
  | false => simp [Irq.clear, Irq.flag, BitVec.getLsbD_not, place_lt, -BitVec.getLsbD_eq_getElem]
  | true => simp [Irq.clear, Irq.flag, BitVec.getLsbD_not, place_lt, evqne_mask_bit, -BitVec.getLsbD_eq_getElem]

/-- The places of a byte written to ICS0 (chapter 11). -/
theorem ofHalf_low_bit (v : Byte) (c : Cause) :
    (ofHalf .low v).getLsbD (c.code - 1) = (decide (c.code ≤ 8) && v.getLsbD (c.code - 1)) := by
  have placed : (ofHalf .low v).getLsbD (c.code - 1) = v.getLsbD (c.code - 1) := by
    rw [ofHalf, BitVec.getLsbD_ofNat, BitVec.getLsbD]
    simp [place_lt]
  rw [placed]
  by_cases low : c.code ≤ 8
  · simp [low]
  · rw [BitVec.getLsbD_of_ge v _ (by omega), Bool.and_false]

/-- The places of a byte written to ICS1: they begin with cause 9, and the byte's top bit has none. -/
theorem ofHalf_high_bit (v : Byte) (c : Cause) :
    (ofHalf .high v).getLsbD (c.code - 1) = (decide (9 ≤ c.code) && v.getLsbD (c.code - 9)) := by
  have place := place_lt c
  have shifted : v.toNat % 128 * 256 = v.toNat % 2 ^ 7 * 2 ^ 8 := rfl
  have below : c.code - 9 < 7 := by omega
  have start : 8 ≤ c.code - 1 ↔ 9 ≤ c.code := by omega
  rw [ofHalf, BitVec.getLsbD_ofNat, shifted, Nat.testBit_mul_two_pow, Nat.testBit_mod_two_pow, BitVec.getLsbD]
  simp [place, below, start, Nat.sub_sub]

theorem writeIcs_flag (h : WhichByte) (v : Byte) (s : State) (c : Cause) :
    (writeIcs h v s).irq.flag c = (s.irq.flag c &&
      (!(ofHalf h v).getLsbD (c.code - 1) || decide (c = .evqne ∧ s.evq.records ≠ []))) := by
  simp [writeIcs, flag_clear]

/-! ### The vector (R199) -/

/-- The order that breaks a tie of levels: by category, then by code. -/
def Precedes (c d : Cause) : Prop :=
  vectorOrder.idxOf c.category < vectorOrder.idxOf d.category ∨ c.category = d.category ∧ c.code ≤ d.code

/-- A cause is asserted and ranks before every other asserted cause: by level, then by the order of a tie. -/
def Leads (u : Irq) (c : Cause) : Prop :=
  u.asserted c = true ∧ ∀ d, u.asserted d = true →
    u.level d.category < u.level c.category ∨ u.level d.category = u.level c.category ∧ Precedes c d

theorem vectorCauses_sorted : vectorCauses.Pairwise Precedes := by
  unfold Precedes
  decide

theorem mem_vectorCauses (c : Cause) : c ∈ vectorCauses := by
  cases c <;> decide

theorem mem_allCauses (c : Cause) : c ∈ allCauses := by
  cases c <;> decide

theorem code_pos (c : Cause) : c.code ≠ 0 := by
  cases c <;> decide

/-- A code names its cause: its place among the causes in code order. -/
theorem cause_of_code (c : Cause) : allCauses[c.code - 1]? = some c := by
  cases c <;> rfl

theorem code_injective : Function.Injective Cause.code := by
  intro c d same
  exact Option.some.inj ((cause_of_code c).symm.trans (same ▸ cause_of_code d))

theorem asserted_iff (u : Irq) (c : Cause) :
    u.asserted c = true ↔
      u.flag c = true ∧ u.enables.getLsbD (c.code - 1) = true ∧ u.threshold < u.level c.category := by
  simp only [Irq.asserted, Bool.and_eq_true, decide_eq_true_eq, and_assoc, BitVec.lt_def]

theorem irqLow_iff (u : Irq) : u.irqLow = true ↔ ∃ c, u.asserted c = true := by
  simp [Irq.irqLow, mem_allCauses]

/-- An asserted cause has a level above a threshold: 1, 2 or 3. -/
theorem asserted_level {u : Irq} {c : Cause} (h : u.asserted c = true) :
    0 < (u.level c.category).toNat ∧ (u.level c.category).toNat ≤ 3 := by
  obtain ⟨-, -, above⟩ := (asserted_iff u c).mp h
  have bound := (u.level c.category).isLt
  rw [BitVec.lt_def] at above
  omega

theorem assertedAt_eq_none {u : Irq} {n : Nat} (none : u.assertedAt n = none) {c : Cause}
    (h : u.asserted c = true) : (u.level c.category).toNat ≠ n := by
  have none := List.find?_eq_none.mp none c (mem_vectorCauses c)
  simpa [h] using none

/-- The first asserted cause of a level leads, when no asserted cause has a level above it. -/
theorem leads_of_assertedAt {u : Irq} {n : Nat} {c : Cause} (found : u.assertedAt n = some c)
    (above : ∀ d, u.asserted d = true → (u.level d.category).toNat ≤ n) : Leads u c := by
  obtain ⟨first, before, after, split, earlier⟩ := List.find?_eq_some_iff_append.mp found
  obtain ⟨asserted, level⟩ : u.asserted c = true ∧ (u.level c.category).toNat = n := by simpa using first
  refine ⟨asserted, fun d hd => ?_⟩
  rw [BitVec.lt_def, ← BitVec.toNat_inj, level]
  obtain lower | same := Nat.lt_or_eq_of_le (above d hd)
  · exact .inl lower
  · refine .inr ⟨same, ?_⟩
    have sorted := vectorCauses_sorted
    have place := mem_vectorCauses d
    rw [split] at sorted place
    obtain early | rfl | late := by simpa using place
    · simpa [hd, same] using earlier d early
    · exact .inr ⟨rfl, Nat.le_refl _⟩
    · obtain ⟨-, fromC, -⟩ := List.pairwise_append.mp sorted
      exact List.rel_of_pairwise_cons fromC late

/-- The vector is 0 with no cause asserted, and otherwise the code of the cause that leads. -/
theorem vector_cases (u : Irq) :
    (u.vector = 0 ∧ ∀ c, u.asserted c = false) ∨ ∃ c, u.vector = c.code ∧ Leads u c := by
  unfold Irq.vector
  cases at3 : u.assertedAt 3 with
  | some c => exact .inr ⟨c, rfl, leads_of_assertedAt at3 fun d hd => (asserted_level hd).2⟩
  | none =>
    have below3 (d : Cause) (hd : u.asserted d = true) : (u.level d.category).toNat ≤ 2 := by
      have := (asserted_level hd).2
      have := assertedAt_eq_none at3 hd
      omega
    cases at2 : u.assertedAt 2 with
    | some c => exact .inr ⟨c, rfl, leads_of_assertedAt at2 below3⟩
    | none =>
      have below2 (d : Cause) (hd : u.asserted d = true) : (u.level d.category).toNat ≤ 1 := by
        have := below3 d hd
        have := assertedAt_eq_none at2 hd
        omega
      cases at1 : u.assertedAt 1 with
      | some c => exact .inr ⟨c, rfl, leads_of_assertedAt at1 below2⟩
      | none =>
        refine .inl ⟨rfl, fun c => Bool.eq_false_iff.mpr fun hc => ?_⟩
        have := below2 c hc
        have := assertedAt_eq_none at1 hc
        have := (asserted_level hc).1
        omega

theorem vector_eq_zero_iff (u : Irq) : u.vector = 0 ↔ ∀ c, u.asserted c = false := by
  obtain ⟨zero, none⟩ | ⟨c, code, asserted, -⟩ := vector_cases u
  · exact ⟨fun _ => none, fun _ => zero⟩
  · rw [code]
    refine ⟨fun zero => absurd zero (code_pos c), fun none => ?_⟩
    rw [none c] at asserted
    cases asserted

theorem leads_of_vector {u : Irq} {c : Cause} (code : u.vector = c.code) : Leads u c := by
  obtain ⟨zero, -⟩ | ⟨d, named, leads⟩ := vector_cases u
  · exact absurd (code.symm.trans zero) (code_pos c)
  · obtain rfl := code_injective (named.symm.trans code)
    exact leads

theorem vector_of_asserted {u : Irq} {c : Cause} (h : u.asserted c = true) :
    ∃ d : Cause, u.asserted d = true ∧ u.vector = d.code := by
  obtain ⟨-, none⟩ | ⟨d, code, leads, -⟩ := vector_cases u
  · rw [none c] at h
    cases h
  · exact ⟨d, leads, code⟩

/-- Settles O49: the clearing of flags, IRQ, and the vector as the code of the cause that leads. -/
theorem interruptRules : Obligations.InterruptRules := by
  refine ⟨fun s h v running => ?_, fun u => ⟨asserted_iff u, irqLow_iff u, vector_eq_zero_iff u,
    fun ⟨_, asserted⟩ => vector_of_asserted asserted, fun _ => leads_of_vector⟩⟩
  refine ⟨writeIcs h v s, TransferQueue.ran_of_running running _, rfl, fun c => ?_⟩
  rw [writeIcs_flag]
  cases h with
  | low => rw [ofHalf_low_bit]
  | high => rw [ofHalf_high_bit]

end Sys2Proof.Machine.EventQueueRules
end

section
/-! PROOFS. Every command keeps the Event Queue: records are only inserted at the newest end or taken from the oldest,
and EVQNE is not cleared over a queue that holds one (R178, R182 to R185). -/

namespace Sys2Proof.Machine

/-! ### Consecutive numbers (R178) -/

/-- The records' numbers run consecutively and end one below `next`. -/
def Numbered (rs : List Record) (next : Half) : Prop :=
  ∀ i r, rs[i]? = some r → r.seq + BitVec.ofNat 16 (rs.length - i) = next

theorem EventQueue.consecutive_iff (q : EventQueue) : q.Consecutive ↔ Numbered q.records q.seq := by
  refine ⟨fun h i r found => ?_, fun h i => h i _ (List.getElem?_eq_getElem i.isLt)⟩
  obtain ⟨inside, rfl⟩ := List.getElem?_eq_some_iff.mp found
  exact h ⟨i, inside⟩

theorem Numbered.tail {rs : List Record} {next : Half} (h : Numbered rs next) : Numbered rs.tail next := by
  intro i r found
  rw [List.getElem?_tail] at found
  rw [List.length_tail, Nat.sub_sub, Nat.add_comm 1 i]
  exact h (i + 1) r found

theorem Numbered.concat {rs : List Record} {r : Record} (h : Numbered rs r.seq) :
    Numbered (rs ++ [r]) (r.seq + 1) := by
  intro i x found
  rw [List.length_append, List.length_singleton]
  obtain old | new := Nat.lt_or_ge i rs.length
  · rw [List.getElem?_append_left old] at found
    rw [Nat.sub_add_comm (Nat.le_of_lt old), BitVec.ofNat_add, ← BitVec.add_assoc, h i x found]
    rfl
  · obtain ⟨place, rfl⟩ := List.getElem?_eq_some_iff.mp (List.getElem?_append_right new ▸ found)
    have last : i = rs.length := by
      rw [List.length_singleton] at place
      omega
    simp [last]

/-! ### Changes of the Event Queue -/

/-- What the invariant speaks of: the records, the counter, the latch and the flags. -/
abbrev State.eventPart (s : State) : List Record × Half × Option Record × BitVec 15 :=
  (s.evq.records, s.evq.seq, s.evq.latch, s.irq.flags)

/-- A change of anything else keeps the invariant. -/
theorem State.EventsKept.congr {s t : State} (h : s.EventsKept) (same : t.eventPart = s.eventPart) :
    t.EventsKept := by
  obtain ⟨records, seq, latch, flags⟩ :
      t.evq.records = s.evq.records ∧ t.evq.seq = s.evq.seq ∧ t.evq.latch = s.evq.latch ∧
        t.irq.flags = s.irq.flags := by simpa using same
  unfold State.EventsKept at h ⊢
  rw [EventQueue.consecutive_iff, Irq.flag] at h ⊢
  rwa [records, seq, latch, flags]

theorem eventsKept_of_empty {s : State} (empty : s.evq.records = []) (released : s.evq.latch = none) :
    s.EventsKept := by
  refine ⟨by simp [empty], ?_, by simp [released], fun holds => absurd empty holds⟩
  rw [EventQueue.consecutive_iff, empty]
  exact nofun

theorem State.EventsKept.ite {s t : State} {c : Prop} [Decidable c] (h : s.EventsKept) (k : t.EventsKept) :
    (if c then s else t).EventsKept := by
  split
  · exact h
  · exact k

theorem State.EventsKept.foldl {α : Type} {f : State → α → State} {s : State} (h : s.EventsKept)
    (each : ∀ t a, t.EventsKept → (f t a).EventsKept) (l : List α) : (l.foldl f s).EventsKept :=
  l.foldlRecOn f h fun t kept a _ => each t a kept

/-- An insertion keeps at most 64 records, numbers its record next, and sets EVQNE into an empty queue
(R178, R179). -/
theorem State.EventsKept.record {s : State} (h : s.EventsKept) (k : Kind) (p : Option (Fin 32)) (a b : Nat) :
    (s.record k p a b).EventsKept := by
  cases logged : s.evq.masked k with
  | true => rwa [EventQueueRules.record_of_masked logged]
  | false =>
    obtain ⟨length, numbered, -, evqne⟩ := h
    rw [EventQueue.consecutive_iff] at numbered
    have shape := EventQueueRules.record_evq_of_unmasked logged p a b
    have held : (s.record k p a b).evq.records ≠ [] := by simp [shape]
    refine ⟨?_, ?_, fun _ => held, fun _ => ?_⟩
    · rw [shape]
      simp only [List.length_append, List.length_singleton]
      split
      · omega
      · rw [List.length_tail]
        omega
    · rw [EventQueue.consecutive_iff, shape]
      refine Numbered.concat (r := { seq := s.evq.seq, .. }) ?_
      split
      · exact numbered
      · exact numbered.tail
    · rw [State.flag_record]
      by_cases empty : s.evq.records = []
      · simp [EventQueueRules.mem_offerCauses logged, empty]
      · simp [evqne empty]

theorem State.EventsKept.setCause {s : State} (h : s.EventsKept) (c : Cause) : (s.setCause c).EventsKept := by
  obtain ⟨length, numbered, latch, evqne⟩ := h
  refine ⟨length, numbered, latch, fun holds => ?_⟩
  simp [State.flag_setCause, evqne holds]

/-- EVQNE is not cleared while the queue holds a record (R185). -/
theorem State.EventsKept.clear {s : State} (h : s.EventsKept) (m : BitVec 15) :
    ({ s with irq := s.irq.clear m !s.evq.records.isEmpty } : State).EventsKept := by
  obtain ⟨length, numbered, latch, evqne⟩ := h
  refine ⟨length, numbered, latch, fun holds => ?_⟩
  have holds : s.evq.records ≠ [] := holds
  simp [EventQueueRules.flag_clear, evqne holds, holds]

/-- The latch takes a copy while the queue holds a record, or is released (R182). -/
theorem State.EventsKept.withLatch {s : State} (h : s.EventsKept) {l : Option Record}
    (held : l.isSome → s.evq.records ≠ []) :
    ({ s with evq := { s.evq with latch := l } } : State).EventsKept := by
  obtain ⟨length, numbered, -, evqne⟩ := h
  exact ⟨length, numbered, held, evqne⟩

/-- The oldest record is removed and the latch released (R183). -/
theorem State.EventsKept.removeOldest {s : State} (h : s.EventsKept) :
    ({ s with evq := { s.evq with records := s.evq.records.tail, latch := none } } : State).EventsKept := by
  obtain ⟨length, numbered, -, evqne⟩ := h
  rw [EventQueue.consecutive_iff] at numbered
  refine ⟨Nat.le_trans (by simp) length, ?_, nofun, fun holds => evqne fun empty => ?_⟩
  · rw [EventQueue.consecutive_iff]
    exact numbered.tail
  · simp [empty] at holds

/-! ### Reading and clearing (R182 to R185) -/

theorem readEv0_eventsKept {s : State} (h : s.EventsKept) : (readEv0 s).EventsKept := by
  unfold readEv0
  split
  · exact (h.withLatch (l := none) nofun).congr rfl
  · next holds => exact (h.withLatch fun _ => by simp [holds]).congr rfl

theorem State.EventsKept.removeIfLatched {s : State} (h : s.EventsKept) (l : Record) :
    ({ s with evq :=
        { s.evq with records := removeIfLatched l s.evq.records, latch := none } } : State).EventsKept := by
  cases holds : s.evq.records with
  | nil => exact eventsKept_of_empty rfl rfl
  | cons r rest =>
    by_cases same : r.seq = l.seq
    · simpa only [Machine.removeIfLatched, if_pos same, holds, List.tail_cons] using h.removeOldest
    · simpa only [Machine.removeIfLatched, if_neg same, ← holds] using h.withLatch (l := none) nofun

theorem readEv9_eventsKept {s : State} (h : s.EventsKept) : (readEv9 s).EventsKept := by
  unfold readEv9
  split
  · exact h.congr rfl
  · next l _ => exact (h.removeIfLatched l).congr rfl

theorem flushCommand_eventsKept (s : State) : (flushCommand s).EventsKept := eventsKept_of_empty rfl rfl

theorem writeIcs_eventsKept (half : WhichByte) (v : Byte) {s : State} (h : s.EventsKept) :
    (writeIcs half v s).EventsKept := h.clear _

/-! ### Refusals (R197) -/

theorem State.EventsKept.withCtl {s : State} (h : s.EventsKept) (c : Control) :
    ({ s with ctl := c } : State).EventsKept := h.congr rfl

theorem State.EventsKept.refuse {s : State} (h : s.EventsKept) (r : Reg) (why : Reason) :
    (s.refuse r why).EventsKept :=
  (h.withCtl _).setCause _

theorem State.EventsKept.refuseCommand {s : State} (h : s.EventsKept) (r : Reg) (why : Reason) :
    (s.refuseCommand r why).EventsKept := (h.refuse r why).record _ _ _ _

/-! ### The allocation (R144, R153) -/

theorem State.EventsKept.soundMissing {s : State} (h : s.EventsKept) (x : Sound) : (s.soundMissing x).EventsKept := by
  have removed : (s.removeSound x).EventsKept := h.congr rfl
  exact (removed.foldl (fun _ _ kept => kept.record _ _ _ _) _).setCause _

theorem State.EventsKept.startSound {s : State} (h : s.EventsKept) (slots : List (Option Sound)) (x : Sound) :
    (s.startSound slots x).EventsKept := by
  unfold State.startSound
  split
  · exact h.soundMissing x
  · split
    · exact h
    · exact h.congr rfl

theorem State.EventsKept.carryOut {s : State} (h : s.EventsKept) (p : Plan) : (s.carryOut p).EventsKept := by
  have idle : ({ s with voices := keepVoices s.voices fun x => decide (some x ∈ p.slots) } : State).EventsKept :=
    h.congr rfl
  exact idle.foldl (fun _ x kept => kept.startSound p.slots x) _

theorem State.EventsKept.allocateFuel (n : Nat) : ∀ {s : State}, s.EventsKept → (s.allocateFuel n).EventsKept := by
  induction n with
  | zero => exact id
  | succ n ih => exact fun h => .ite (ih (h.carryOut _)) (h.carryOut _)

theorem State.EventsKept.allocate {s : State} (h : s.EventsKept) : s.allocate.EventsKept := .allocateFuel _ h

theorem State.EventsKept.allocateIfLimitChanged {s : State} (h : s.EventsKept) (before : Nat) :
    (s.allocateIfLimitChanged before).EventsKept := .ite h h.allocate

theorem State.EventsKept.post {s : State} (h : s.EventsKept) (src : Source) (kind : RequestKind) (pattern : PatternId)
    (rule : PassRule) (priority : Option (Fin 4)) : (s.post src kind pattern rule priority).EventsKept := by
  have enlisted : (s.enlist src kind pattern rule priority).EventsKept := h.congr rfl
  exact enlisted.allocate

theorem State.EventsKept.withdraw {s : State} (h : s.EventsKept) (src : Source) : (s.withdraw src).EventsKept := by
  have left : ({ s with tones :=
      { s.tones with requests := s.tones.requests.filter fun q => q.source ≠ src } } : State).EventsKept :=
    h.congr rfl
  exact .ite left.allocate h

/-! ### The sequence of a point (chapters 2 and 3) -/

theorem State.EventsKept.modSeq {s : State} (h : s.EventsKept) (p : PointId) (f : Seq → Seq) :
    (s.modSeq p f).EventsKept := h.congr rfl

theorem State.EventsKept.joinFirstOut {s : State} (h : s.EventsKept) (p : PointId) (g : GroupId) (n : Half)
    (tie : Bool) : (s.joinFirstOut p g n tie).EventsKept := (h.modSeq p _).record _ _ _ _

theorem State.EventsKept.assignMark {s : State} (h : s.EventsKept) (p : PointId) (n : Half) :
    (s.assignMark p n).EventsKept := by
  unfold State.assignMark
  split
  · exact h
  · next g _ =>
    have captured : (s.setGroup g { captured := true, captureScan := n }).EventsKept := h.congr rfl
    exact .ite (captured.joinFirstOut p g n false)
      (.ite (.ite h (h.joinFirstOut p g n true)) (.ite (h.modSeq p _) h))

theorem State.EventsKept.rearm {s : State} (h : s.EventsKept) (g : GroupId) (p : Option PointId) (command : Bool) :
    (s.rearm g p command).EventsKept := by
  have opened : ((s.clearMarks g).setGroup g .opened).EventsKept := h.congr rfl
  exact opened.record _ _ _ _

theorem State.EventsKept.rearmCheck {s : State} (h : s.EventsKept) (p : PointId) : (s.rearmCheck p).EventsKept := by
  unfold State.rearmCheck
  split
  · exact h
  · exact .ite (h.rearm _ _ _) h

theorem State.EventsKept.enlistAlarm {s : State} (h : s.EventsKept) (p : PointId) : (s.enlistAlarm p).EventsKept := by
  unfold State.enlistAlarm
  split
  · exact h
  · exact h.congr rfl

theorem State.EventsKept.alarmOccasion {s : State} (h : s.EventsKept) (p : PointId) :
    (s.alarmOccasion p).EventsKept := .ite h.allocate h

theorem State.EventsKept.postRingback {s : State} (h : s.EventsKept) (p : PointId) :
    (s.postRingback p).EventsKept := by
  unfold State.postRingback
  split
  · exact h
  · exact h.post _ _ _ _ _

theorem State.EventsKept.leave {s : State} (h : s.EventsKept) (p : PointId) (reposts : Bool) :
    (s.leave p reposts).EventsKept := by
  have left : (if reposts then s else s.withdraw (.point p)).EventsKept := .ite h (h.withdraw _)
  unfold State.leave
  split
  · exact left.modSeq p _
  · exact left.modSeq p _
  · exact h
  · exact h

theorem State.EventsKept.announce {s : State} (h : s.EventsKept) (p : PointId) (n : Half) (o : SeqOutcome) :
    (s.announce p n o).EventsKept := by
  have listed := ((h.modSeq p fun a =>
    { a with state := .alarmUnack, alarmTime := s.time.clock, silenced := false, toneDone := false }).assignMark
      p n).enlistAlarm p
  exact State.EventsKept.setCause
    (.ite ((listed.record _ _ _ _).alarmOccasion p) ((listed.alarmOccasion p).record _ _ _ _)) _

theorem State.EventsKept.returnRecord {s : State} (h : s.EventsKept) (p : PointId) (byReturn : Bool) :
    (s.returnRecord p byReturn).EventsKept := .ite (h.record _ _ _ _) h

theorem State.EventsKept.takeMove {s : State} (h : s.EventsKept) (p : PointId) (m : Move) (ev : SeqEvent) (n : Half) :
    (s.takeMove p m ev n).EventsKept := by
  unfold State.takeMove
  split
  · exact h
  · exact h.announce p n _
  · exact (h.leave p _).announce p n _
  · exact (h.leave p _).modSeq p _
  · exact ((((h.leave p _).modSeq p _).postRingback p).returnRecord p _).setCause _
  · exact ((((h.leave p _).modSeq p _).returnRecord p _).setCause _).rearmCheck p

theorem State.EventsKept.applyAlarm {s : State} (h : s.EventsKept) (p : PointId) (n : Half) :
    (s.applyAlarm p n).EventsKept := by
  refine .ite (h.record _ _ _ _) ?_
  split
  · exact h.record _ _ _ _
  · exact h.takeMove p _ _ n

theorem State.EventsKept.applyReturn {s : State} (h : s.EventsKept) (p : PointId) : (s.applyReturn p).EventsKept := by
  refine .ite (h.record _ _ _ _) ?_
  split
  · exact h.record _ _ _ _
  · exact h.takeMove p _ _ _

theorem State.EventsKept.handOn {s : State} (h : s.EventsKept) (p : PointId) (e : Option QualEvent) :
    (s.handOn p e).EventsKept := by
  unfold State.handOn
  split
  · exact h
  · exact h.applyAlarm p _
  · exact h.applyReturn p

/-! ### Scans, shelves and the point window -/

theorem scanStep_eventsKept (order : List PointId) {s : State} (h : s.EventsKept) : (scanStep order s).EventsKept := by
  have scanned : s.takeScan.EventsKept := h.congr rfl
  exact .ite (.ite (scanned.foldl (fun _ p kept => kept.handOn p _) _) scanned) h

theorem State.EventsKept.settlePoint {s : State} (h : s.EventsKept) (p : PointId) : (s.settlePoint p).EventsKept :=
  .ite (.ite ((h.modSeq p _).record _ _ _ _) (h.applyAlarm p _)) h

theorem State.EventsKept.controllerRecord {s : State} (h : s.EventsKept) (left : CtlState) (why : CtlReason) :
    (s.controllerRecord left why).EventsKept := (h.record _ _ _ _).setCause _

theorem State.EventsKept.enterActive {s : State} (h : s.EventsKept) : s.enterActive.EventsKept :=
  ((h.withCtl _).controllerRecord _ _).allocateIfLimitChanged _

theorem settleEndStep_eventsKept {s : State} (h : s.EventsKept) : (settleEndStep s).EventsKept := by
  have scanned : s.takeScan.EventsKept := h.congr rfl
  exact .ite (scanned.foldl (fun _ p kept => kept.settlePoint p) _).enterActive h

theorem State.EventsKept.unshelveAlarm {s : State} (h : s.EventsKept) (p : PointId) :
    (s.unshelveAlarm p).EventsKept := .ite (h.applyAlarm p _) h

theorem shelfExpiryStep_eventsKept (p : PointId) {s : State} (h : s.EventsKept) :
    (shelfExpiryStep p s).EventsKept :=
  .ite ((((h.modSeq p _).setCause _).record _ _ _ _).unshelveAlarm p) h

theorem State.EventsKept.expireShelves {s : State} (h : s.EventsKept) : s.expireShelves.EventsKept :=
  h.foldl (fun _ p => shelfExpiryStep_eventsKept p) _

theorem State.EventsKept.pointCommand {s : State} (h : s.EventsKept) {f : State → State}
    (accepted : (f s).EventsKept) : (s.pointCommand f).EventsKept :=
  .ite (h.refuseCommand _ _) (.ite (h.refuseCommand _ _) accepted)

theorem State.EventsKept.shelvePoint {s : State} (h : s.EventsKept) (p : PointId) : (s.shelvePoint p).EventsKept := by
  have shelved := ((h.withdraw (.point p)).modSeq p fun a =>
    { a with state := .normal, mark := .none, silenced := false, toneDone := false,
             shelf := shelfOf s.window.shdur })
  exact .ite (shelved.record _ _ _ _) (((shelved.record _ _ _ _).setCause _).rearmCheck p)

theorem shelveCommand_eventsKept {s : State} (h : s.EventsKept) : (shelveCommand s).EventsKept :=
  h.pointCommand (.ite (h.shelvePoint _) ((h.modSeq _ _).record _ _ _ _))

theorem unshelveCommand_eventsKept {s : State} (h : s.EventsKept) : (unshelveCommand s).EventsKept :=
  h.pointCommand (.ite h (((h.modSeq _ _).record _ _ _ _).unshelveAlarm _))

theorem rearmCommand_eventsKept {s : State} (h : s.EventsKept) : (rearmCommand s).EventsKept :=
  .ite (h.refuseCommand _ _) (.ite (h.rearm _ _ _) (h.record _ _ _ _))

theorem writePsel_eventsKept (v : Byte) {s : State} (h : s.EventsKept) : (writePsel v s).EventsKept := by
  unfold writePsel
  split
  · exact h.congr rfl
  · exact h.refuse _ _

theorem State.EventsKept.writePcfByte {s : State} (h : s.EventsKept) (i : Fin 9) (v : Byte) :
    (s.writePcfByte i v).EventsKept := by
  unfold State.writePcfByte
  dsimp only
  split
  case h_2 | h_7 =>
    split
    · exact h.refuse _ _
    · exact h.congr rfl
  case h_9 =>
    split
    · exact h.congr rfl
    · exact h.refuse _ _
  all_goals exact h.congr rfl

theorem writePcf_eventsKept (i : Fin 9) (v : Byte) {s : State} (h : s.EventsKept) : (writePcf i v s).EventsKept :=
  .ite (h.writePcfByte i v) (h.refuse _ _)

theorem writeShdur_eventsKept (half : WhichByte) (v : Byte) {s : State} (h : s.EventsKept) :
    (writeShdur half v s).EventsKept := by
  cases half <;> exact h.congr rfl

/-! ### Actions, tests and buttons -/

theorem State.EventsKept.actionMove {s : State} (h : s.EventsKept) (p : PointId) (ev : SeqEvent) :
    (s.actionMove p ev).1.EventsKept := by
  unfold State.actionMove
  split
  · exact h
  · exact h.takeMove p _ _ _

/-- An action's part at one point keeps the invariant. -/
def PointPart.KeepsEvents (f : PointPart) : Prop := ∀ s p, s.EventsKept → (f s p).1.EventsKept

theorem ackPoint_keepsEvents : PointPart.KeepsEvents ackPoint := by
  intro s p h
  unfold ackPoint
  split
  · exact h.actionMove p _
  · exact h

theorem silencePoint_keepsEvents : PointPart.KeepsEvents silencePoint := by
  intro s p h
  unfold silencePoint
  dsimp only
  split
  · exact (h.withdraw (.point p)).modSeq p _
  · exact h

theorem resetPoint_keepsEvents : PointPart.KeepsEvents resetPoint := fun _ p h => h.actionMove p _

theorem State.EventsKept.applyToScope {s : State} (h : s.EventsKept) (c : Scope) {f : PointPart}
    (part : f.KeepsEvents) : (s.applyToScope c f).1.EventsKept := by
  refine allPoints.foldlRecOn (motive := fun sn : State × Nat => sn.1.EventsKept) (actOn c f) h fun sn kept p _ => ?_
  unfold actOn
  split
  · exact part sn.1 p kept
  · exact kept

theorem State.EventsKept.actionCause {s : State} (h : s.EventsKept) (src : ActionSource) :
    (s.actionCause src).EventsKept := .ite (h.setCause _) h

theorem State.EventsKept.pointAction {s : State} (h : s.EventsKept) (a : Action) {f : PointPart}
    (part : f.KeepsEvents) (src : ActionSource) (c : Scope) : (s.pointAction a f src c).EventsKept :=
  ((h.applyToScope c part).record _ _ _ _).actionCause src

theorem State.EventsKept.withTest {s : State} (h : s.EventsKept) (t : TestRecord) :
    ({ s with panel := { s.panel with test := t } } : State).EventsKept := h.congr rfl

theorem State.EventsKept.testStart {s : State} (h : s.EventsKept) (panel : Bool) : (s.testStart panel).EventsKept :=
  .ite (((h.withTest _).record _ _ _ _).actionCause _) (((h.withTest _).record _ _ _ _).actionCause _)

theorem State.EventsKept.testEndRecord {s : State} (h : s.EventsKept) (how : TestEnding) (t : TestRecord) :
    (s.testEndRecord how t).EventsKept := by
  cases how <;> exact h.record _ _ _ _

theorem State.EventsKept.testEnd {s : State} (h : s.EventsKept) (how : TestEnding) : (s.testEnd how).EventsKept := by
  have withdrawn : s.withdrawHorn.EventsKept := .ite (h.withdraw _) h
  have ended := ((withdrawn.withTest s.panel.test.ended).testEndRecord how s.panel.test).setCause .testend
  exact .ite (ended.setCause _) ended

theorem State.EventsKept.leaveActive {s : State} (h : s.EventsKept) : s.leaveActive.EventsKept := .ite (h.testEnd _) h

theorem hornTestStep_eventsKept {s : State} (h : s.EventsKept) : (hornTestStep s).EventsKept :=
  .ite ((h.withTest _).post _ _ _ _ _) h

theorem testTimeoutStep_eventsKept {s : State} (h : s.EventsKept) : (testTimeoutStep s).EventsKept :=
  .ite (h.testEnd _) h

theorem State.EventsKept.hostAction {s : State} (h : s.EventsKept) (a : Action) : (s.hostAction a).EventsKept := by
  cases a with
  | ack => exact h.pointAction _ ackPoint_keepsEvents _ _
  | silence => exact h.pointAction _ silencePoint_keepsEvents _ _
  | reset => exact h.pointAction _ resetPoint_keepsEvents _ _
  | testStart => exact h.testStart _
  | testEnd => exact .ite (h.record _ _ _ _) (h.testEnd _)

theorem actionCommand_eventsKept (a : Action) {s : State} (h : s.EventsKept) : (actionCommand a s).EventsKept :=
  .ite (h.refuseCommand _ _) (.ite (h.refuseCommand _ _) (h.hostAction a))

theorem State.EventsKept.press {s : State} (h : s.EventsKept) (b : Button) : (s.press b).EventsKept := by
  refine .ite ?_ h
  cases b with
  | ack => exact h.pointAction _ ackPoint_keepsEvents _ _
  | sil => exact h.pointAction _ silencePoint_keepsEvents _ _
  | rst => exact h.pointAction _ resetPoint_keepsEvents _ _
  | tst => exact .ite h (h.testStart _)

theorem State.EventsKept.releaseButton {s : State} (h : s.EventsKept) (b : Button) :
    (s.releaseButton b).EventsKept := by
  cases b with
  | tst => exact .ite (h.testEnd _) h
  | ack | sil | rst => exact h

theorem buttonSampleStep_eventsKept (order : List Button) {s : State} (h : s.EventsKept) :
    (buttonSampleStep order s).EventsKept := by
  have filtered : ({ s with panel :=
      { s.panel with filters := s.filtersAfter, sampleDue := false } } : State).EventsKept := h.congr rfl
  exact .ite (filtered.foldl (fun _ b kept => .ite kept (.ite (kept.press b) (kept.releaseButton b))) _) h

/-! ### The cadence (chapter 5) -/

theorem State.EventsKept.postReminder {s : State} (h : s.EventsKept) (p : PointId) :
    (s.postReminder p).EventsKept := by
  unfold State.postReminder
  split
  · exact h
  · exact h.post _ _ _ _ _

theorem State.EventsKept.reminders {s : State} (h : s.EventsKept) (c : BitVec 6) : (s.reminders c).EventsKept :=
  .ite (h.foldl (fun _ p kept => kept.postReminder p) _) h

theorem State.EventsKept.withTime {s : State} (h : s.EventsKept) (t : Timebase) :
    ({ s with time := t } : State).EventsKept := h.congr rfl

theorem State.EventsKept.cycleStart {s : State} (h : s.EventsKept) (c : BitVec 6) (into : Nat) :
    (s.cycleStart c into).EventsKept := (h.withTime _).reminders c

theorem State.EventsKept.syncRecord {s : State} (h : s.EventsKept) (why : SyncReason) :
    (s.syncRecord why).EventsKept := (h.record _ _ _ _).setCause _

theorem eighthEndStep_eventsKept {s : State} (h : s.EventsKept) : (eighthEndStep s).EventsKept :=
  .ite (.ite (h.cycleStart _ _) (h.withTime _)) h

theorem lineReleaseStep_eventsKept {s : State} (h : s.EventsKept) : (lineReleaseStep s).EventsKept :=
  .ite (h.withTime _) h

theorem State.EventsKept.takePulse {s : State} (h : s.EventsKept) (n : Nat) (marker : Bool) :
    (s.takePulse n marker).EventsKept := by
  have locked := (h.cycleStart (if marker then 0 else s.time.cycle + 1) n).withTime
    { (s.cycleStart (if marker then 0 else s.time.cycle + 1) n).time with sync := .locked, misses := 0 }
  exact .ite (locked.syncRecord _) locked

theorem pulseStep_eventsKept {s : State} (h : s.EventsKept) : (pulseStep s).EventsKept := by
  have cleared : s.clearLowRun.EventsKept := h.withTime _
  unfold pulseStep
  split
  · split
    · exact cleared.takePulse _ _
    · exact cleared.takePulse _ _
    · exact cleared
  all_goals exact h

theorem missStep_eventsKept {s : State} (h : s.EventsKept) : (missStep s).EventsKept := by
  have started := (h.withTime { s.time with misses := s.time.misses + 1 }).cycleStart (s.time.cycle + 1) 0
  exact .ite (.ite ((started.withTime _).syncRecord _) started) h

/-! ### Transfers (chapter 7) -/

theorem accessDrdat_eventsKept (a : Access) {s : State} (h : s.EventsKept) : (accessDrdat a s).EventsKept := by
  cases a <;> exact h.congr rfl

theorem transferRequest_eventsKept (r : TransferRequest) {s : State} (h : s.EventsKept) :
    (transferRequest r s).EventsKept := by
  unfold transferRequest
  split
  · exact h.refuseCommand _ _
  · exact h.congr rfl

theorem State.EventsKept.withTransfers {s : State} (h : s.EventsKept) (st : Store) (x : TransferEngine) :
    ({ s with store := st, xfer := x } : State).EventsKept := h.congr rfl

theorem commitCompletionStep_eventsKept {s : State} (h : s.EventsKept) : (commitCompletionStep s).EventsKept := by
  unfold commitCompletionStep
  split
  · exact h
  · split
    · exact h
    all_goals exact .ite (((h.withTransfers _ _).record _ _ _ _).setCause _) h

theorem fetchCompletionStep_eventsKept {s : State} (h : s.EventsKept) : (fetchCompletionStep s).EventsKept := by
  unfold fetchCompletionStep
  split
  · exact h
  · split
    · exact .ite ((h.withTransfers s.store _).setCause _) h
    all_goals exact h

theorem State.EventsKept.makeAccess {s : State} (h : s.EventsKept) : s.makeAccess.EventsKept := by
  unfold State.makeAccess
  split
  · exact h
  · exact h.withTransfers _ _

theorem State.EventsKept.lateAccess {s : State} (h : s.EventsKept) : s.lateAccess.EventsKept := by
  unfold State.lateAccess
  split
  · exact h
  · exact .ite h.makeAccess h

theorem State.EventsKept.engineTick {s : State} (h : s.EventsKept) (late : Bool) : (s.engineTick late).EventsKept := by
  unfold State.engineTick
  split
  · exact h
  · exact .ite h (.ite (h.withTransfers s.store _) h.makeAccess)

theorem State.EventsKept.abandonTransfers {s : State} (h : s.EventsKept) : s.abandonTransfers.EventsKept := by
  have emptied := h.withTransfers s.store { s.xfer with queue := [], accessDue := false }
  unfold State.abandonTransfers
  dsimp only
  split
  · exact emptied
  · exact emptied.record _ _ _ _

/-! ### Sounds and supply (chapters 8 and 9) -/

theorem stepBoundaryStep_eventsKept (v : VoiceId) {s : State} (h : s.EventsKept) :
    (stepBoundaryStep v s).EventsKept := by
  have voice (x : Voice) : (s.setVoice v x).EventsKept := h.congr rfl
  unfold stepBoundaryStep
  split
  · exact h
  · next p _ =>
    have removed : ((s.setVoice v none).removeSound p.sound).EventsKept := (voice none).congr rfl
    refine .ite ?_ h
    split
    · exact ((voice none).soundMissing _).allocate
    · split
      · exact voice _
      · exact removed.allocate

theorem envelopeDecayStep_eventsKept (v : VoiceId) {s : State} (h : s.EventsKept) :
    (envelopeDecayStep v s).EventsKept := by
  unfold envelopeDecayStep
  split
  · exact h
  · exact .ite (h.congr rfl) h

theorem chimeCommand_eventsKept (stop : Bool) {s : State} (h : s.EventsKept) : (chimeCommand stop s).EventsKept :=
  .ite (h.refuseCommand _ _) (.ite (h.withdraw _) (h.post _ _ _ _ _))

theorem writeVcnt_eventsKept (v : Byte) {s : State} (h : s.EventsKept) : (writeVcnt v s).EventsKept := by
  have written : ({ s with tones := { s.tones with vcnt := v } } : State).EventsKept := h.congr rfl
  exact .ite (written.allocateIfLimitChanged _) (h.refuse _ _)

theorem State.EventsKept.withSupply {s : State} (h : s.EventsKept) (u : Supply) :
    ({ s with supply := u } : State).EventsKept := h.congr rfl

theorem supplySampleStep_eventsKept {s : State} (h : s.EventsKept) : (supplySampleStep s).EventsKept := by
  have counted := h.withSupply (s.supply.counted s.pins.vdrv)
  refine .ite ?_ h
  dsimp only
  split
  · exact counted
  · exact (((counted.withSupply _).record _ _ _ _).setCause _).allocateIfLimitChanged _

/-! ### The controller commands and the resets (chapter 11) -/

theorem State.EventsKept.clearRun {s : State} (h : s.EventsKept) : s.clearRun.EventsKept := h.congr rfl

theorem State.EventsKept.enterSetup {s : State} (h : s.EventsKept) : s.enterSetup.EventsKept := h.congr rfl

theorem initDoneStep_eventsKept {s : State} (h : s.EventsKept) : (initDoneStep s).EventsKept := by
  have completed := (h.withTransfers s.store.initCompleted s.xfer).withTime { s.time with eighthLen := s.time.elen }
  exact .ite (completed.enterSetup.controllerRecord _ _) h

theorem startCommand_eventsKept {s : State} (h : s.EventsKept) : (startCommand s).EventsKept := by
  have arming : ({ s with ctl := { s.ctl with state := .arming, settleStart := some s.time.clock },
                          scan := { s.scan with count := some 0 } } : State).EventsKept := h.congr rfl
  exact .ite (arming.controllerRecord _ _) (h.refuseCommand _ _)

theorem stopCommand_eventsKept {s : State} (h : s.EventsKept) : (stopCommand s).EventsKept :=
  .ite (h.leaveActive.clearRun.enterSetup.controllerRecord _ _) (h.refuseCommand _ _)

theorem State.EventsKept.enterHold {s : State} (h : s.EventsKept) : s.enterHold.EventsKept := h.congr rfl

theorem holdCommand_eventsKept {s : State} (h : s.EventsKept) : (holdCommand s).EventsKept :=
  .ite ((h.expireShelves.leaveActive.enterHold.allocateIfLimitChanged _).controllerRecord _ _) (h.refuseCommand _ _)

theorem resumeCommand_eventsKept {s : State} (h : s.EventsKept) : (resumeCommand s).EventsKept := by
  have resumed : s.leaveHold.EventsKept := h.congr rfl
  exact .ite ((resumed.allocateIfLimitChanged _).controllerRecord _ _) (h.refuseCommand _ _)

theorem State.EventsKept.clearFlags {s : State} (h : s.EventsKept) : s.clearFlags.EventsKept := h.clear _

/-- SOFTRESET releases the latch and leaves the records, with EVQNE over them (R187, R195). -/
theorem softresetCommand_eventsKept {s : State} (h : s.EventsKept) : (softresetCommand s).EventsKept := by
  have released : s.leaveActive.abandonTransfers.releaseLatch.EventsKept :=
    h.leaveActive.abandonTransfers.withLatch nofun
  have supplied : s.leaveActive.abandonTransfers.releaseLatch.clearRun.supplyOk.EventsKept :=
    released.clearRun.withSupply _
  exact .ite (h.refuseCommand _ _) (supplied.enterSetup.clearFlags.controllerRecord _ _)

/-! ### The tick -/

/-- Every event left over from the tick before keeps the invariant (log 4). -/
theorem State.EventsKept.takeDue {s : State} (h : s.EventsKept) : s.takeDue.EventsKept := by
  have boundaries {t : State} (k : t.EventsKept) :
      ((List.finRange 4).foldl (fun t v => stepBoundaryStep v t) t).EventsKept :=
    k.foldl (fun _ v => stepBoundaryStep_eventsKept v) _
  have decays {t : State} (k : t.EventsKept) :
      ((List.finRange 4).foldl (fun t v => envelopeDecayStep v t) t).EventsKept :=
    k.foldl (fun _ v => envelopeDecayStep_eventsKept v) _
  have scanned := settleEndStep_eventsKept (scanStep_eventsKept [] (initDoneStep_eventsKept h))
  have panel := testTimeoutStep_eventsKept (hornTestStep_eventsKept
    (buttonSampleStep_eventsKept [] scanned.expireShelves))
  have cadence := missStep_eventsKept (pulseStep_eventsKept (lineReleaseStep_eventsKept
    (eighthEndStep_eventsKept panel)))
  have completed := fetchCompletionStep_eventsKept (commitCompletionStep_eventsKept cadence)
  exact (supplySampleStep_eventsKept (decays (boundaries completed))).lateAccess

theorem State.EventsKept.advance {s : State} (h : s.EventsKept) (p : Pins) : (s.advance p).EventsKept := h.congr rfl

theorem tickStep_eventsKept (p : Pins) (late : Bool) {s : State} (h : s.EventsKept) :
    (tickStep p late s).EventsKept := (h.takeDue.advance p).engineTick late

/-! ### Writes of the register window (R200) -/

theorem State.EventsKept.inSetup {s : State} (h : s.EventsKept) (r : Reg) {f : State → State}
    (accepted : (f s).EventsKept) : (s.inSetup r f).EventsKept := .ite accepted (h.refuse _ _)

theorem writeSrole_eventsKept (v : Byte) {s : State} (h : s.EventsKept) : (writeSrole v s).EventsKept := by
  refine .ite (h.refuse _ _) ?_
  split
  · exact h.refuse _ _
  · exact h.congr rfl

theorem writeTdiv_eventsKept (half : WhichByte) (v : Byte) {s : State} (h : s.EventsKept) :
    (writeTdiv half v s).EventsKept := by
  refine .ite (h.refuse _ _) ?_
  cases half with
  | low => exact h.withTime _
  | high => exact .ite (h.refuse _ _) (h.withTime _)

theorem writeScnper_eventsKept (v : Byte) {s : State} (h : s.EventsKept) : (writeScnper v s).EventsKept := by
  refine h.inSetup _ ?_
  split
  · exact h.refuse _ _
  · exact h.congr rfl

theorem writeAscp_eventsKept (v : Byte) {s : State} (h : s.EventsKept) : (writeAscp v s).EventsKept := by
  unfold writeAscp
  split
  · exact h.refuse _ _
  · exact h.congr rfl

/-- A write of a register whose value is an index: taken below the bound, refused from it on. -/
theorem State.EventsKept.index {s : State} (h : s.EventsKept) (r : Reg) {n : Nat} {v : Byte}
    {f : v.toNat < n → State} (accepted : ∀ below, (f below).EventsKept) :
    (if below : v.toNat < n then f below else s.refuse r .badValue).EventsKept := by
  split
  · exact accepted _
  · exact h.refuse _ _

theorem writeCcmd_eventsKept (v : Byte) {s : State} (h : s.EventsKept) : (writeCcmd v s).EventsKept := by
  unfold writeCcmd
  split
  · exact startCommand_eventsKept h
  · exact stopCommand_eventsKept h
  · exact holdCommand_eventsKept h
  · exact resumeCommand_eventsKept h
  · exact softresetCommand_eventsKept h
  · exact h.refuseCommand _ _

theorem writePcmd_eventsKept (v : Byte) {s : State} (h : s.EventsKept) : (writePcmd v s).EventsKept := by
  unfold writePcmd
  split
  · exact shelveCommand_eventsKept h
  · exact unshelveCommand_eventsKept h
  · exact h.refuseCommand _ _

theorem writeActn_eventsKept (v : Byte) {s : State} (h : s.EventsKept) : (writeActn v s).EventsKept := by
  unfold writeActn
  split
  case h_6 => exact h.refuseCommand _ _
  all_goals exact actionCommand_eventsKept _ h

theorem writeXreq_eventsKept (v : Byte) {s : State} (h : s.EventsKept) : (writeXreq v s).EventsKept := by
  unfold writeXreq
  split
  case h_5 => exact h.refuseCommand _ _
  all_goals exact transferRequest_eventsKept _ h

theorem writeChctl_eventsKept (v : Byte) {s : State} (h : s.EventsKept) : (writeChctl v s).EventsKept :=
  .ite (chimeCommand_eventsKept _ h) (.ite (chimeCommand_eventsKept _ h) (h.refuseCommand _ _))

theorem writeIlv_eventsKept (half : WhichByte) (v : Byte) {s : State} (h : s.EventsKept) :
    (writeIlv half v s).EventsKept := by
  cases half <;> exact h.congr rfl

/-- A write of any register: the Event Queue's and ICS by their own lemmas, the rest by the command they give. -/
theorem writeRegister_eventsKept (r : Reg) (v : Byte) {s : State} (h : s.EventsKept) :
    (writeRegister r v s).EventsKept := by
  cases r with
  | evcmd => exact .ite (flushCommand_eventsKept s) (h.refuseCommand _ _)
  | ics half => exact writeIcs_eventsKept half v h
  | ilv half => exact writeIlv_eventsKept half v h
  | ccmd => exact writeCcmd_eventsKept v h
  | tdiv half => exact writeTdiv_eventsKept half v h
  | srole => exact writeSrole_eventsKept v h
  | psel => exact writePsel_eventsKept v h
  | pcf i => exact writePcf_eventsKept i v h
  | pcmd => exact writePcmd_eventsKept v h
  | shdur half => exact writeShdur_eventsKept half v h
  | scnper => exact writeScnper_eventsKept v h
  | ascp => exact writeAscp_eventsKept v h
  | actn => exact writeActn_eventsKept v h
  | gcmd => exact .ite (rearmCommand_eventsKept h) (h.refuseCommand _ _)
  | drdat => exact accessDrdat_eventsKept (.write v) h
  | xreq => exact writeXreq_eventsKept v h
  | vcnt => exact writeVcnt_eventsKept v h
  | chctl => exact writeChctl_eventsKept v h
  | elen => exact h.inSetup _ (.ite (h.withTime _) (h.refuse _ _))
  | setl | opts => exact h.inSetup _ (h.congr rfl)
  | gsel | dradr | rbadr | vsel | htpat => exact h.index _ fun _ => h.congr rfl
  | lmplv | tstlv | eccap | ecolv | echys | evthr => exact .ite (h.congr rfl) (h.refuse _ _)
  | agrd | plock | xid | chpat | evmsk | ien => exact h.congr rfl
  | csts | rfs0 | rfs1 | rclk | cstat | cycnt | pst | scnnum | lout | pbtn | tsts | gst | xstat0 | xstat1 | rbdat
  | vst | rqcnt | sgst | sglev | ev | evcnt | evnxt0 | evnxt1 | ivec | evlat => exact h

theorem busWrite_eventsKept (a : BitVec 7) (v : Byte) {s : State} (h : s.EventsKept) : (busWrite a v s).EventsKept := by
  unfold busWrite
  split
  · exact h
  · exact writeRegister_eventsKept _ v h

theorem readFirst_eventsKept (r : Reg) (ps : List Partner) {s : State} (h : s.EventsKept) :
    (readFirst r ps s).EventsKept := h.congr rfl

/-! ### Every command -/

/-- A meaning answers a next state whose Event Queue is kept. -/
def AnswersKept (o : Out) : Prop := ∃ t, o = .next t ∧ t.EventsKept

theorem State.EventsKept.ran {s : State} (h : s.EventsKept) {f : State → State} (effect : (f s).EventsKept) :
    AnswersKept (ran f s) := ⟨_, rfl, .ite h effect⟩

/-- Every command of the table keeps the Event Queue. -/
theorem exec_eventsKept (c : Instr) {s : State} (h : s.EventsKept) : AnswersKept (exec c s) := by
  cases c with
  | powerOnReset | hardwareReset | resetInputAsserted => exact ⟨_, rfl, eventsKept_of_empty rfl rfl⟩
  | tick p late => exact ⟨_, rfl, .ite (h.congr rfl) (tickStep_eventsKept p late h)⟩
  | ev0Read => exact h.ran (readEv0_eventsKept h)
  | ev9Read => exact h.ran (readEv9_eventsKept h)
  | flush => exact h.ran (flushCommand_eventsKept s)
  | icsWrite half v => exact h.ran (writeIcs_eventsKept half v h)
  | initDone => exact h.ran (initDoneStep_eventsKept h)
  | start => exact h.ran (startCommand_eventsKept h)
  | stop => exact h.ran (stopCommand_eventsKept h)
  | hold => exact h.ran (holdCommand_eventsKept h)
  | resume => exact h.ran (resumeCommand_eventsKept h)
  | softreset => exact h.ran (softresetCommand_eventsKept h)
  | scan order => exact h.ran (scanStep_eventsKept order h)
  | settleEnd => exact h.ran (settleEndStep_eventsKept h)
  | rearm => exact h.ran (rearmCommand_eventsKept h)
  | shelve => exact h.ran (shelveCommand_eventsKept h)
  | unshelve => exact h.ran (unshelveCommand_eventsKept h)
  | shelfExpiry p => exact h.ran (shelfExpiryStep_eventsKept p h)
  | buttonSample order => exact h.ran (buttonSampleStep_eventsKept order h)
  | ack | silence | reset | testStart | testEnd => exact h.ran (actionCommand_eventsKept _ h)
  | hornTestBegin => exact h.ran (hornTestStep_eventsKept h)
  | testTimeout => exact h.ran (testTimeoutStep_eventsKept h)
  | eighthEnd => exact h.ran (eighthEndStep_eventsKept h)
  | lineRelease => exact h.ran (lineReleaseStep_eventsKept h)
  | pulseRecognised => exact h.ran (pulseStep_eventsKept h)
  | miss => exact h.ran (missStep_eventsKept h)
  | sroleWrite v => exact h.ran (writeSrole_eventsKept v h)
  | tdivWrite half v => exact h.ran (writeTdiv_eventsKept half v h)
  | pselWrite v => exact h.ran (writePsel_eventsKept v h)
  | pcfWrite i v => exact h.ran (writePcf_eventsKept i v h)
  | shdurWrite half v => exact h.ran (writeShdur_eventsKept half v h)
  | commitHeader | commitSteps | commitBoth | fetch => exact h.ran (transferRequest_eventsKept _ h)
  | commitCompletion => exact h.ran (commitCompletionStep_eventsKept h)
  | fetchCompletion => exact h.ran (fetchCompletionStep_eventsKept h)
  | drdatAccess a => exact h.ran (accessDrdat_eventsKept a h)
  | chimeStart | chimeStop => exact h.ran (chimeCommand_eventsKept _ h)
  | vcntWrite v => exact h.ran (writeVcnt_eventsKept v h)
  | stepBoundary v => exact h.ran (stepBoundaryStep_eventsKept v h)
  | envelopeDecay v => exact h.ran (envelopeDecayStep_eventsKept v h)
  | supplySample => exact h.ran (supplySampleStep_eventsKept h)
  | registerWrite a v => exact h.ran (busWrite_eventsKept a v h)
  | scnnumLowRead | rclk0Read | cstatRead | shelfSecondsLowRead | gst3Read | xstat0Read | vst0Read | lout0Read
  | sgstRead | evnxt0Read | rfs0Read => exact h.ran (readFirst_eventsKept _ _ h)
  | rbdatRead | holdPartnerByteRead => exact h.ran (h.congr rfl)

/-- Settles O50: the command at the front keeps the Event Queue, and an empty queue of commands idles. -/
theorem stepKeepsEvents : Obligations.StepKeepsEvents := by
  intro s t kept taken
  unfold step at taken
  split at taken
  · cases taken
    exact kept
  · next c rest _ =>
    have front : ({ s with pending := rest } : State).EventsKept := kept.congr rfl
    obtain ⟨u, answer, done⟩ := exec_eventsKept c front
    obtain rfl : u = t := Host.Outcome.next.inj (answer.symm.trans taken)
    exact done

end Sys2Proof.Machine
end

section
namespace Sys2Proof.Machine.AfterReset

/-! ### The parts of the reset state -/

@[simp] theorem point_reset (p : PointId) : State.reset.point p = .reset := by simp [State.point, State.reset]

@[simp] theorem group_reset (g : GroupId) : State.reset.group g = .opened := by simp [State.group, State.reset]

@[simp] theorem requests_reset : State.reset.tones.requests = [] := rfl

@[simp] theorem state_reset : State.reset.ctl.state = .init := rfl

@[simp] theorem voiceLimit_reset : State.reset.voiceLimit = 0 := rfl

@[simp] theorem playingSounds_reset : State.reset.playingSounds = [] := rfl

/-- No sound is entitled under a voice limit of 0 (R144). -/
theorem entitled_of_voiceLimit_zero {s : State} (silent : s.voiceLimit = 0) : s.entitled = [] := by
  rw [State.entitled, silent, List.take_zero]

/-- The voice count after a reset is 4 (R143). -/
theorem vcnt_within : Within 1 4 State.reset.tones.vcnt.toNat := by decide

/-! ### Each invariant -/

/-- The counts stand at 0, the settings within their ranges, and no point has a reminder or a shelf. -/
theorem rangesKept_reset : State.reset.RangesKept := by
  have filters : ∀ b : Fin 4, State.reset.panel.filters[b].changes ≤ 2 := by decide
  have reminders : ∀ p : PointId, ∀ r ∈ (State.reset.point p).cfg.reminder, r.Legal := by
    simp [Point.reset, PointConfig.reset]
  have shelves : ∀ p : PointId, (State.reset.point p).seq.shelf.Legal := by
    simp [Point.reset, Seq.clear, Shelf.Legal]
  unfold State.RangesKept
  refine ⟨?tdiv, ?elen, ?eighthLen, ?misses, vcnt_within, ?lmplv, ?tstlv, ?eccap, ?ecolv, ?echys, ?count1, ?count2,
    ?threshold, filters, reminders, shelves⟩
  all_goals decide

/-- Every header is empty, every step the initial one, and no transfer waits (R116, R129). -/
theorem storeLegal_reset : State.reset.StoreLegal := by
  refine ⟨fun p => ?_, fun n => ?_, Nat.zero_le _, nofun⟩
  · simp [State.reset, Store.reset, Store.header, HeaderLegal]
  · simpa [State.reset, Store.reset] using PatternStore.initial_legal

theorem requestsKept_reset : State.reset.RequestsKept := ⟨List.nodup_nil, nofun⟩

/-- No voice plays, and none may (R144). -/
theorem entitledPlay_reset : State.reset.EntitledPlay := by
  refine ⟨vcnt_within, ?_, ?_⟩
  · simp
  · simp [entitled_of_voiceLimit_zero voiceLimit_reset]

theorem voicesKept_reset : State.reset.VoicesKept := by
  refine ⟨vcnt_within, ?_, ?_, ?_⟩ <;> simp

/-- In INIT nothing runs but the initialisation: no scan, no settle timer, no test, no request, no transfer. -/
theorem runKept_reset : State.reset.RunKept := by
  refine ⟨?settle, ?scan, ?quals, ?clear, ?test, ?parties, ?voices, vcnt_within, fun _ => rfl, fun _ => rfl⟩
  case settle => simp [State.reset, Control.reset]
  case scan => simp [State.reset, Control.reset, Scanner.reset]
  case quals => simp [Point.reset]
  case clear => simp [Point.reset]
  case test => exact fun testing => absurd rfl testing
  case parties => exact fun _ => ⟨rfl, rfl⟩
  case voices => simp

/-- Every point is clear, its timer IDLE and its count 0 (R6, R11, R12). -/
theorem qualKept_reset : State.reset.QualKept := by
  intro p
  rw [point_reset]
  refine ⟨fun _ => rfl, ?_, rfl⟩
  decide

/-- Every point is clear and in NORMAL, and no request is its own (R6, R21). -/
theorem sequencesKept_reset : State.reset.SequencesKept := by
  intro p
  rw [point_reset]
  exact ⟨fun _ => rfl, fun shelved => absurd rfl shelved, nofun, trivial, nofun⟩

/-- No point carries a mark, and every group is OPEN with capture scan 0 (R50, R59). -/
theorem marksKept_reset : State.reset.MarksKept := by
  refine ⟨fun p marked => ?_, fun g _ => ?_⟩
  · rw [point_reset] at marked
    exact absurd rfl marked
  · rw [group_reset]
    rfl

/-- Settles O60: each invariant by the values that power-on reset gives the fields it speaks of. -/
theorem invariantsAtReset : Obligations.InvariantsAtReset :=
  ⟨eventsKept_of_empty rfl rfl, rangesKept_reset, storeLegal_reset, PatternStore.idle_inRange rfl, requestsKept_reset,
    entitledPlay_reset, voicesKept_reset, runKept_reset, qualKept_reset, sequencesKept_reset, marksKept_reset,
    Cadence.syncKept_of_reset rfl⟩

end Sys2Proof.Machine.AfterReset
end

section
/-! PROOFS. The queue of commands is no part of the block: a step takes its front, no operation of a block changes it,
and every command answers a next state with the queue as it stood (logs 1, 2, 3, 22). -/

namespace Sys2Proof.Machine

/-! ### The front of the queue -/

/-- Settles O1: a step by its two cases, a queue with a front and an empty one. -/
theorem stepTakesFront : Obligations.StepTakesFront := by
  refine ⟨fun c s => rfl, fun s empty => ?_⟩
  simp only [step, empty]

/-! ### The queue through frames, choices and folds -/

/-- The annunciation of points has no part in the queue. -/
theorem AnnunciationOnly.pending {s t : State} (h : AnnunciationOnly s t) : t.pending = s.pending := by
  obtain ⟨⟨queue, -⟩, -⟩ := (annunciationOnly_iff s t).mp h
  exact queue

theorem pending_ite {s t u : State} {c : Prop} [Decidable c] (yes : t.pending = s.pending)
    (no : u.pending = s.pending) : (if c then t else u).pending = s.pending := by
  split
  · exact yes
  · exact no

theorem pending_foldl {α : Type} {f : State → α → State} (h : ∀ s a, (f s a).pending = s.pending) (l : List α) :
    ∀ s, (l.foldl f s).pending = s.pending := by
  induction l with
  | nil => exact fun _ => rfl
  | cons a l ih => exact fun s => (ih (f s a)).trans (h s a)

@[simp] theorem State.allocateIfLimitChanged_pending (s : State) (n : Nat) :
    (s.allocateIfLimitChanged n).pending = s.pending := (s.allocateIfLimitChanged_frame n).pending

/-! ### Scans, shelves and the point window (chapters 1 to 3) -/

@[simp] theorem scanStep_pending (order : List PointId) (s : State) : (scanStep order s).pending = s.pending := by
  have handed := pending_foldl (fun t p => (State.handOn_frame t p (s.scanOf p).2).pending)
    (inOrder order allPoints) s.takeScan
  exact pending_ite (pending_ite handed rfl) rfl

theorem State.settlePoint_pending (s : State) (p : PointId) : (s.settlePoint p).pending = s.pending :=
  pending_ite (pending_ite rfl (s.applyAlarm_frame p _).pending) rfl

theorem State.enterActive_pending (s : State) : s.enterActive.pending = s.pending :=
  State.allocateIfLimitChanged_pending _ _

@[simp] theorem settleEndStep_pending (s : State) : (settleEndStep s).pending = s.pending := by
  have settled := pending_foldl State.settlePoint_pending allPoints s.takeScan
  exact pending_ite ((State.enterActive_pending _).trans settled) rfl

@[simp] theorem State.unshelveAlarm_pending (s : State) (p : PointId) : (s.unshelveAlarm p).pending = s.pending :=
  pending_ite (s.applyAlarm_frame p _).pending rfl

@[simp] theorem shelfExpiryStep_pending (p : PointId) (s : State) : (shelfExpiryStep p s).pending = s.pending :=
  pending_ite (by simp) rfl

@[simp] theorem State.expireShelves_pending (s : State) : s.expireShelves.pending = s.pending :=
  pending_foldl (fun t p => shelfExpiryStep_pending p t) allPoints s

theorem State.pointCommand_pending {f : State → State} (s : State) (h : (f s).pending = s.pending) :
    (s.pointCommand f).pending = s.pending := pending_ite rfl (pending_ite rfl h)

theorem shelveCommand_pending (s : State) : (shelveCommand s).pending = s.pending :=
  s.pointCommand_pending (pending_ite (s.shelvePoint_frame _).pending rfl)

theorem unshelveCommand_pending (s : State) : (unshelveCommand s).pending = s.pending :=
  s.pointCommand_pending (pending_ite rfl (by simp))

theorem rearmCommand_pending (s : State) : (rearmCommand s).pending = s.pending :=
  pending_ite rfl (pending_ite (s.rearm_frame _ _ _).pending rfl)

theorem writePsel_pending (v : Byte) (s : State) : (writePsel v s).pending = s.pending := by
  unfold writePsel
  split <;> rfl

/-- Byte by byte: PCF1, PCF6 and PCF8 refuse a code that names nothing (R3). -/
theorem State.writePcfByte_pending (s : State) (i : Fin 9) (v : Byte) : (s.writePcfByte i v).pending = s.pending := by
  unfold State.writePcfByte
  dsimp only
  split
  case h_2 | h_7 | h_9 => split <;> rfl
  all_goals rfl

theorem writePcf_pending (i : Fin 9) (v : Byte) (s : State) : (writePcf i v s).pending = s.pending :=
  pending_ite (s.writePcfByte_pending i v) rfl

theorem writeShdur_pending (h : WhichByte) (v : Byte) (s : State) : (writeShdur h v s).pending = s.pending := by
  cases h <;> rfl

/-! ### Actions, tests and buttons (chapter 4) -/

theorem State.testStart_pending (s : State) (panel : Bool) : (s.testStart panel).pending = s.pending :=
  pending_ite (State.actionCause_frame _ _).pending (State.actionCause_frame _ _).pending

@[simp] theorem State.testEndRecord_pending (s : State) (how : TestEnding) (t : TestRecord) :
    (s.testEndRecord how t).pending = s.pending := by
  cases how <;> rfl

theorem State.withdrawHorn_pending (s : State) : s.withdrawHorn.pending = s.pending :=
  pending_ite (s.withdraw_frame _).pending rfl

@[simp] theorem State.testEnd_pending (s : State) (how : TestEnding) : (s.testEnd how).pending = s.pending := by
  have recorded (t : State) (r : TestRecord) (horn : t.pending = s.pending) :
      (t.testEndRecord how r).pending = s.pending := (t.testEndRecord_pending how r).trans horn
  exact pending_ite (recorded _ _ s.withdrawHorn_pending) (recorded _ _ s.withdrawHorn_pending)

@[simp] theorem State.leaveActive_pending (s : State) : s.leaveActive.pending = s.pending :=
  pending_ite (s.testEnd_pending _) rfl

@[simp] theorem hornTestStep_pending (s : State) : (hornTestStep s).pending = s.pending :=
  pending_ite (State.post_frame _ _ _ _ _ _).pending rfl

@[simp] theorem testTimeoutStep_pending (s : State) : (testTimeoutStep s).pending = s.pending :=
  pending_ite (s.testEnd_pending _) rfl

theorem State.hostAction_pending (s : State) (a : Action) : (s.hostAction a).pending = s.pending := by
  cases a with
  | ack => exact (s.pointAction_frame _ ackPoint_framed _ _).pending
  | silence => exact (s.pointAction_frame _ silencePoint_framed _ _).pending
  | reset => exact (s.pointAction_frame _ resetPoint_framed _ _).pending
  | testStart => exact s.testStart_pending _
  | testEnd => exact pending_ite rfl (s.testEnd_pending _)

theorem actionCommand_pending (a : Action) (s : State) : (actionCommand a s).pending = s.pending :=
  pending_ite rfl (pending_ite rfl (s.hostAction_pending a))

theorem State.press_pending (s : State) (b : Button) : (s.press b).pending = s.pending := by
  refine pending_ite ?_ rfl
  cases b with
  | ack => exact (s.pointAction_frame _ ackPoint_framed _ _).pending
  | sil => exact (s.pointAction_frame _ silencePoint_framed _ _).pending
  | rst => exact (s.pointAction_frame _ resetPoint_framed _ _).pending
  | tst => exact pending_ite rfl (s.testStart_pending _)

theorem State.releaseButton_pending (s : State) (b : Button) : (s.releaseButton b).pending = s.pending := by
  cases b with
  | tst => exact pending_ite (s.testEnd_pending _) rfl
  | ack | sil | rst => rfl

theorem State.recognise_pending (was s : State) (b : Button) : (was.recognise s b).pending = s.pending :=
  pending_ite rfl (pending_ite (s.press_pending b) (s.releaseButton_pending b))

@[simp] theorem buttonSampleStep_pending (order : List Button) (s : State) :
    (buttonSampleStep order s).pending = s.pending := by
  have recognised := pending_foldl s.recognise_pending (inOrder order allButtons)
    { s with panel := { s.panel with filters := s.filtersAfter, sampleDue := false } }
  exact pending_ite recognised rfl

/-! ### The cadence (chapter 5) -/

@[simp] theorem State.cycleStart_pending (s : State) (c : BitVec 6) (into : Nat) :
    (s.cycleStart c into).pending = s.pending := (State.reminders_frame _ c).pending

@[simp] theorem eighthEndStep_pending (s : State) : (eighthEndStep s).pending = s.pending :=
  pending_ite (pending_ite (s.cycleStart_pending _ _) rfl) rfl

@[simp] theorem lineReleaseStep_pending (s : State) : (lineReleaseStep s).pending = s.pending := pending_ite rfl rfl

theorem State.takePulse_pending (s : State) (n : Nat) (marker : Bool) : (s.takePulse n marker).pending = s.pending :=
  pending_ite (s.cycleStart_pending _ _) (s.cycleStart_pending _ _)

/-- The end of a low period, recognised or discarded (R98). -/
@[simp] theorem pulseStep_pending (s : State) : (pulseStep s).pending = s.pending := by
  unfold pulseStep
  split
  · split
    · exact s.clearLowRun.takePulse_pending _ _
    · exact s.clearLowRun.takePulse_pending _ _
    · rfl
  all_goals rfl

@[simp] theorem State.loseLock_pending (s : State) : s.loseLock.pending = s.pending := pending_ite rfl rfl

@[simp] theorem missStep_pending (s : State) : (missStep s).pending = s.pending := pending_ite (by simp) rfl

theorem writeSrole_pending (v : Byte) (s : State) : (writeSrole v s).pending = s.pending := by
  refine pending_ite rfl ?_
  split <;> rfl

theorem writeTdiv_pending (h : WhichByte) (v : Byte) (s : State) : (writeTdiv h v s).pending = s.pending := by
  refine pending_ite rfl ?_
  cases h with
  | low => rfl
  | high => exact pending_ite rfl rfl

/-! ### Transfers (chapters 6 and 7) -/

theorem accessDrdat_pending (a : Access) (s : State) : (accessDrdat a s).pending = s.pending := by
  cases a <;> rfl

theorem transferRequest_pending (r : TransferRequest) (s : State) : (transferRequest r s).pending = s.pending := by
  unfold transferRequest
  split <;> rfl

/-- A commit alone completes here, when its last access is due (R131). -/
@[simp] theorem commitCompletionStep_pending (s : State) : (commitCompletionStep s).pending = s.pending := by
  unfold commitCompletionStep
  split
  · rfl
  · split
    · rfl
    all_goals exact pending_ite rfl rfl

/-- A fetch alone completes here, when its last access is due (R132). -/
@[simp] theorem fetchCompletionStep_pending (s : State) : (fetchCompletionStep s).pending = s.pending := by
  unfold fetchCompletionStep
  split
  · rfl
  · split
    · exact pending_ite rfl rfl
    all_goals rfl

theorem State.makeAccess_pending (s : State) : s.makeAccess.pending = s.pending := by
  unfold State.makeAccess
  split <;> rfl

@[simp] theorem State.lateAccess_pending (s : State) : s.lateAccess.pending = s.pending := by
  unfold State.lateAccess
  split
  · rfl
  · exact pending_ite s.makeAccess_pending rfl

@[simp] theorem State.engineTick_pending (s : State) (late : Bool) : (s.engineTick late).pending = s.pending := by
  unfold State.engineTick
  split
  · rfl
  · exact pending_ite rfl (pending_ite rfl s.makeAccess_pending)

@[simp] theorem State.abandonTransfers_pending (s : State) : s.abandonTransfers.pending = s.pending := by
  unfold State.abandonTransfers
  dsimp only
  split <;> rfl

/-! ### Sounds and supply (chapters 8 and 9) -/

theorem chimeCommand_pending (stop : Bool) (s : State) : (chimeCommand stop s).pending = s.pending :=
  pending_ite rfl (pending_ite (s.withdraw_frame _).pending (s.post_frame _ _ _ _ _).pending)

theorem writeVcnt_pending (v : Byte) (s : State) : (writeVcnt v s).pending = s.pending :=
  pending_ite (by simp) rfl

@[simp] theorem supplySampleStep_pending (s : State) : (supplySampleStep s).pending = s.pending := by
  refine pending_ite ?_ rfl
  dsimp only
  split
  · rfl
  · exact State.allocateIfLimitChanged_pending _ _

/-! ### Reads of the Event Queue (chapter 10) -/

theorem readEv0_pending (s : State) : (readEv0 s).pending = s.pending := by
  unfold readEv0
  split <;> rfl

theorem readEv9_pending (s : State) : (readEv9 s).pending = s.pending := by
  unfold readEv9
  split <;> rfl

/-! ### The controller commands (chapter 11) -/

theorem startCommand_pending (s : State) : (startCommand s).pending = s.pending := pending_ite rfl rfl

theorem stopCommand_pending (s : State) : (stopCommand s).pending = s.pending := pending_ite (by simp) rfl

theorem State.holdNow_pending (s : State) : s.holdNow.pending = s.pending := by
  simp [State.holdNow]

theorem holdCommand_pending (s : State) : (holdCommand s).pending = s.pending :=
  pending_ite (s.expireShelves.holdNow_pending.trans s.expireShelves_pending) rfl

theorem resumeCommand_pending (s : State) : (resumeCommand s).pending = s.pending := pending_ite (by simp) rfl

theorem softresetCommand_pending (s : State) : (softresetCommand s).pending = s.pending :=
  pending_ite rfl (by simp)

@[simp] theorem initDoneStep_pending (s : State) : (initDoneStep s).pending = s.pending := pending_ite rfl rfl

/-! ### The tick (R89) -/

/-- Each event left over from the tick before keeps the queue (log 4). -/
@[simp] theorem State.takeDue_pending (s : State) : s.takeDue.pending = s.pending := by
  have boundaries := pending_foldl (fun t v => (stepBoundaryStep_frame v t).pending) (List.finRange 4)
  have decays := pending_foldl (fun t v => (envelopeDecayStep_frame v t).pending) (List.finRange 4)
  have shelves := pending_foldl (fun t p => shelfExpiryStep_pending p t) allPoints
  simp [State.takeDue, boundaries, decays, shelves]

theorem tickStep_pending (p : Pins) (late : Bool) (s : State) : (tickStep p late s).pending = s.pending := by
  simp [tickStep]

/-! ### Writes of the register window (R200) -/

theorem writeCcmd_pending (v : Byte) (s : State) : (writeCcmd v s).pending = s.pending := by
  unfold writeCcmd
  split
  · exact startCommand_pending s
  · exact stopCommand_pending s
  · exact holdCommand_pending s
  · exact resumeCommand_pending s
  · exact softresetCommand_pending s
  · rfl

theorem writePcmd_pending (v : Byte) (s : State) : (writePcmd v s).pending = s.pending := by
  unfold writePcmd
  split
  · exact shelveCommand_pending s
  · exact unshelveCommand_pending s
  · rfl

theorem writeActn_pending (v : Byte) (s : State) : (writeActn v s).pending = s.pending := by
  unfold writeActn
  split
  case h_6 => rfl
  all_goals exact actionCommand_pending _ s

theorem writeXreq_pending (v : Byte) (s : State) : (writeXreq v s).pending = s.pending := by
  unfold writeXreq
  split
  case h_5 => rfl
  all_goals exact transferRequest_pending _ s

theorem writeChctl_pending (v : Byte) (s : State) : (writeChctl v s).pending = s.pending :=
  pending_ite (chimeCommand_pending _ s) (pending_ite (chimeCommand_pending _ s) rfl)

theorem writeScnper_pending (v : Byte) (s : State) : (writeScnper v s).pending = s.pending := by
  refine pending_ite ?_ rfl
  split <;> rfl

theorem writeAscp_pending (v : Byte) (s : State) : (writeAscp v s).pending = s.pending := by
  unfold writeAscp
  split <;> rfl

/-- A write of a register whose value is an index: taken below the bound, refused from it on. -/
theorem pending_index {n : Nat} {v : Byte} {s : State} {f : v.toNat < n → State} (r : Reg)
    (taken : ∀ h, (f h).pending = s.pending) :
    (if h : v.toNat < n then f h else s.refuse r .badValue).pending = s.pending := by
  split
  · exact taken _
  · rfl

theorem writeRegister_pending (r : Reg) (v : Byte) (s : State) : (writeRegister r v s).pending = s.pending := by
  cases r with
  | ccmd => exact writeCcmd_pending v s
  | tdiv half => exact writeTdiv_pending half v s
  | srole => exact writeSrole_pending v s
  | psel => exact writePsel_pending v s
  | pcf i => exact writePcf_pending i v s
  | pcmd => exact writePcmd_pending v s
  | shdur half => exact writeShdur_pending half v s
  | scnper => exact writeScnper_pending v s
  | ascp => exact writeAscp_pending v s
  | actn => exact writeActn_pending v s
  | gcmd => exact pending_ite (rearmCommand_pending s) rfl
  | xreq => exact writeXreq_pending v s
  | vcnt => exact writeVcnt_pending v s
  | chctl => exact writeChctl_pending v s
  | elen => exact pending_ite (pending_ite rfl rfl) rfl
  | gsel | dradr | rbadr | vsel | htpat => exact pending_index _ fun _ => rfl
  | setl | opts | lmplv | tstlv | eccap | ecolv | echys | evthr | evcmd => exact pending_ite rfl rfl
  | agrd | plock | drdat | xid | chpat | evmsk | ics | ien | ilv => rfl
  | csts | rfs0 | rfs1 | rclk | cstat | cycnt | pst | scnnum | lout | pbtn | tsts | gst | xstat0 | xstat1 | rbdat
  | vst | rqcnt | sgst | sglev | ev | evcnt | evnxt0 | evnxt1 | ivec | evlat => rfl

theorem busWrite_pending (a : BitVec 7) (v : Byte) (s : State) : (busWrite a v s).pending = s.pending := by
  unfold busWrite
  split
  · rfl
  · exact writeRegister_pending _ v s

/-! ### Every command -/

/-- A meaning answers a next state, with the queue of commands as it stands. -/
def AnswersNext (s : State) (o : Out) : Prop := ∃ t, o = .next t ∧ t.pending = s.pending

/-- A command answers a next state, whether it has its effect or the reset input is low (R196; log 22). -/
theorem ran_answersNext {f : State → State} {s : State} (h : (f s).pending = s.pending) : AnswersNext s (ran f s) :=
  ⟨_, rfl, pending_ite rfl h⟩

theorem execTick_answersNext (p : Pins) (late : Bool) (s : State) : AnswersNext s (execTick p late s) :=
  ⟨_, rfl, pending_ite rfl (tickStep_pending p late s)⟩

/-- Settles O2, command by command: each has a next state for its meaning, and its effect keeps the queue. -/
theorem everyCommandAnswersNext : Obligations.EveryCommandAnswersNext := by
  intro c s
  show AnswersNext s (exec c s)
  cases c with
  | powerOnReset | hardwareReset | resetInputAsserted => exact ⟨_, rfl, rfl⟩
  | tick p late => exact execTick_answersNext p late s
  | initDone => exact ran_answersNext (initDoneStep_pending s)
  | start => exact ran_answersNext (startCommand_pending s)
  | stop => exact ran_answersNext (stopCommand_pending s)
  | hold => exact ran_answersNext (holdCommand_pending s)
  | resume => exact ran_answersNext (resumeCommand_pending s)
  | softreset => exact ran_answersNext (softresetCommand_pending s)
  | scan order => exact ran_answersNext (scanStep_pending order s)
  | settleEnd => exact ran_answersNext (settleEndStep_pending s)
  | rearm => exact ran_answersNext (rearmCommand_pending s)
  | shelve => exact ran_answersNext (shelveCommand_pending s)
  | unshelve => exact ran_answersNext (unshelveCommand_pending s)
  | shelfExpiry p => exact ran_answersNext (shelfExpiryStep_pending p s)
  | buttonSample order => exact ran_answersNext (buttonSampleStep_pending order s)
  | ack | silence | reset | testStart | testEnd => exact ran_answersNext (actionCommand_pending _ s)
  | hornTestBegin => exact ran_answersNext (hornTestStep_pending s)
  | testTimeout => exact ran_answersNext (testTimeoutStep_pending s)
  | eighthEnd => exact ran_answersNext (eighthEndStep_pending s)
  | lineRelease => exact ran_answersNext (lineReleaseStep_pending s)
  | pulseRecognised => exact ran_answersNext (pulseStep_pending s)
  | miss => exact ran_answersNext (missStep_pending s)
  | sroleWrite v => exact ran_answersNext (writeSrole_pending v s)
  | tdivWrite half v => exact ran_answersNext (writeTdiv_pending half v s)
  | pselWrite v => exact ran_answersNext (writePsel_pending v s)
  | pcfWrite i v => exact ran_answersNext (writePcf_pending i v s)
  | shdurWrite half v => exact ran_answersNext (writeShdur_pending half v s)
  | commitHeader | commitSteps | commitBoth | fetch => exact ran_answersNext (transferRequest_pending _ s)
  | commitCompletion => exact ran_answersNext (commitCompletionStep_pending s)
  | fetchCompletion => exact ran_answersNext (fetchCompletionStep_pending s)
  | drdatAccess a => exact ran_answersNext (accessDrdat_pending a s)
  | chimeStart | chimeStop => exact ran_answersNext (chimeCommand_pending _ s)
  | vcntWrite v => exact ran_answersNext (writeVcnt_pending v s)
  | stepBoundary v => exact ran_answersNext (stepBoundaryStep_frame v s).pending
  | envelopeDecay v => exact ran_answersNext (envelopeDecayStep_frame v s).pending
  | supplySample => exact ran_answersNext (supplySampleStep_pending s)
  | ev0Read => exact ran_answersNext (readEv0_pending s)
  | ev9Read => exact ran_answersNext (readEv9_pending s)
  | registerWrite a v => exact ran_answersNext (busWrite_pending a v s)
  | rbdatRead | flush | icsWrite | holdPartnerByteRead => exact ran_answersNext (s := s) rfl
  | scnnumLowRead | rclk0Read | cstatRead | shelfSecondsLowRead | gst3Read | xstat0Read | vst0Read | lout0Read
  | sgstRead | evnxt0Read | rfs0Read => exact ran_answersNext (s := s) rfl

end Sys2Proof.Machine
end
